-- ==== Sys2Proof/Word.lean ====
section
/-! DEFINITION. The bit vectors of the block: the spec treats register contents, operation words and port values as bits
(spec/00_scope.md R16, R18, R19). Timestamps and deadlines that the block computes with are natural numbers (R30, R35 to
R38) and stand in State as Nat. -/

namespace Sys2Proof

/-- A byte of the sensor's frame, and the width of an opcode and of port `outcome` (R8, R71, R25). -/
abbrev Byte := BitVec 8

/-- A 16-bit field: humidity, temperature, interval (R39, R40, R42). -/
abbrev Half := BitVec 16

/-- A 32-bit value: an operand, a sample, a counter, read data (R16, R71, R57). -/
abbrev Word := BitVec 32

/-- The 40-bit operation word on port `op` (R71). -/
abbrev OpWord := BitVec 40

/-- The 64-bit timestamp on port `t`, in microseconds (R16 `TS_W`, R72). -/
abbrev Stamp := BitVec 64

end Sys2Proof
end

