-- ==== Sys2Proof/Config.lean ====
section
/-! DEFINITION. What the spec fixes once (R7 to R9, R13, R17) and what an implementation chooses (R10 to R15): the named
parameters are one record, carried unchanged by State, so that a statement about every state holds for every choice. -/

namespace Sys2Proof

/-- The block's identifier (R2). -/
def identifier : String := "DHT22-EDGECAP/spec-v7"

/-- `N_BITS`: samples in a frame, length of the Sample Buffer (R7). -/
abbrev nBits : Nat := 40

/-- `N_BYTES`: bytes in a frame (R8). -/
abbrev nBytes : Nat := 5

/-- `THRESH_US`: a longer high pulse is a 1 (R9). -/
abbrev threshUs : Nat := 50

/-- `INTERVAL_MIN`, in seconds (R13). -/
abbrev intervalMin : Nat := 3

/-- `INTERVAL_MAX`, in seconds (R13). -/
abbrev intervalMax : Nat := 60000

/-- `US_PER_S`: microseconds in a second (R17). -/
abbrev usPerS : Nat := 1000000

/-- A number of seconds in microseconds (R17). The factors stand in this order because the kernel computes a product by
its second one. -/
abbrev secondsUs (n : Nat) : Nat := usPerS * n

/-- `CNT_W`: width of the Low-Transition Counter (R16). -/
abbrev cntW : Nat := 32

/-- The named parameters of R10 to R12 and R14, R15. -/
structure Params where
  /-- `PREAMBLE`: falling edges before the first in-window edge (R10). -/
  preamble : Nat
  /-- `WD_US`: the watchdog's duration in microseconds (R11). -/
  wdUs : Nat
  /-- `T_WAKE_US`: how long the wake sequence drives the pin low, in microseconds (R12). -/
  tWakeUs : Nat
  /-- `GPIO_PIN`: the pin the block serves, 0 to 2^32 - 1 (R14). -/
  gpioPin : Word
  /-- `AUTOUPDATE_RESET`: the auto-refresh enable at load (R15). -/
  autoupdateReset : Bool
  /-- `INTERVAL_RESET`: the auto-refresh interval at load, in seconds (R15). -/
  intervalReset : Nat
  deriving DecidableEq, Repr

/-- The reference configuration of spec/95_test_vectors.md: the spec's defaults of R10 to R12, and for the three
parameters that the spec leaves OPEN (R14, R15; D18) its test configuration's 4, off and 10. DESIGN CHOICE (log entry 1):
only `State.reset` uses these three values; `State.resetWith` takes any. -/
def Params.reference : Params where
  preamble := 3
  wdUs := 1000000
  tWakeUs := 1000
  gpioPin := 4
  autoupdateReset := false
  intervalReset := 10

end Sys2Proof
end

