-- ==== Sys2Proof/Syntax.lean ====
section
/-! DEFINITION. The operations of the block: one constructor per row of spec/opcode_table.json (R75), its operand format
(R73, R74) and the agent that issues it (R24, R75). -/

namespace Sys2Proof

/-- The pin level that the edge handler read: operand bit L of EDGE (R73, R82). -/
inductive Level where
  /-- L = 0: a falling transition. -/
  | low
  /-- L = 1: a rising transition. -/
  | high
  deriving DecidableEq, Repr

/-- The operations of R75. The timestamp that comes with an operation is no part of the word (R72): it reaches the
operation as `now` of the state it runs on. -/
inductive Instr where
  /-- EDGE L (R81). -/
  | edge (level : Level)
  /-- WAKE_RELEASE (R94). -/
  | wakeRelease
  /-- WD_EXPIRE (R95). -/
  | wdExpire
  /-- REFRESH_TICK (R96). -/
  | refreshTick
  /-- DECODE (R100). -/
  | decode
  /-- WR_AUTOUPDATE v (R113). -/
  | wrAutoupdate (v : Word)
  /-- WR_INTERVAL n, in seconds (R114). -/
  | wrInterval (n : Word)
  /-- WR_TRIGGER n, the byte length of the host's write (R93). -/
  | wrTrigger (n : Word)
  /-- WR_DEBUG v (R115). -/
  | wrDebug (v : Word)
  /-- RD_GPIO_PIN (R116). -/
  | rdGpioPin
  /-- RD_AUTOUPDATE (R117). -/
  | rdAutoupdate
  /-- RD_INTERVAL (R118). -/
  | rdInterval
  /-- RD_HUMIDITY (R119). -/
  | rdHumidity
  /-- RD_TEMPERATURE (R120). -/
  | rdTemperature
  /-- RD_DATA (R121). -/
  | rdData
  /-- SHUTDOWN (R122). -/
  | shutdown
  deriving DecidableEq, Repr

/-- The operand formats of R73. -/
inductive Format where
  /-- N: no operand. -/
  | none
  /-- L: a pin level in bit 0. -/
  | level
  /-- V: an unsigned 32-bit value. -/
  | value
  deriving DecidableEq, Repr

/-- The format column of R75. -/
def Instr.format : Instr → Format
  | .edge _ => .level
  | .wakeRelease => .none
  | .wdExpire => .none
  | .refreshTick => .none
  | .decode => .none
  | .wrAutoupdate _ => .value
  | .wrInterval _ => .value
  | .wrTrigger _ => .value
  | .wrDebug _ => .value
  | .rdGpioPin => .none
  | .rdAutoupdate => .none
  | .rdInterval => .none
  | .rdHumidity => .none
  | .rdTemperature => .none
  | .rdData => .none
  | .shutdown => .none

/-- The six agents of R24. -/
inductive Agent where
  | edgeInterrupt
  | wakeHoldTimer
  | watchdogTimer
  | autoRefreshTimer
  | deferredWork
  | host
  deriving DecidableEq, Repr

/-- The agent column of R75. -/
def Instr.agent : Instr → Agent
  | .edge _ => .edgeInterrupt
  | .wakeRelease => .wakeHoldTimer
  | .wdExpire => .watchdogTimer
  | .refreshTick => .autoRefreshTimer
  | .decode => .deferredWork
  | .wrAutoupdate _ => .host
  | .wrInterval _ => .host
  | .wrTrigger _ => .host
  | .wrDebug _ => .host
  | .rdGpioPin => .host
  | .rdAutoupdate => .host
  | .rdInterval => .host
  | .rdHumidity => .host
  | .rdTemperature => .host
  | .rdData => .host
  | .shutdown => .host

end Sys2Proof
end

