-- ==== Sys2Proof/WellFormed.lean ====
section
/-! DEFINITION. The checks that a term can fail: an operand against its format (R73), and the parameters against their
ranges (R10, R11, R12, R15). The types of Instr leave no ill-formed instruction (a level is LOW or HIGH, a value has 32
bits), so `Instr.wellFormed` holds of every term; the operand check is the one the decoder applies to raw words. -/

namespace Sys2Proof

/-- R73: the operand bits a format admits; a bit that must be 0 and is 1 makes the word reserved. -/
def Format.admits (f : Format) (v : Word) : Bool :=
  match f with
  | .none => v == 0
  | .level => v >>> 1 == 0
  | .value => true

/-- The operand bits `v[31:0]` of an operation (R73, R74). -/
def Instr.operand : Instr → Word
  | .edge .low => 0
  | .edge .high => 1
  | .wakeRelease => 0
  | .wdExpire => 0
  | .refreshTick => 0
  | .decode => 0
  | .wrAutoupdate v => v
  | .wrInterval n => n
  | .wrTrigger n => n
  | .wrDebug v => v
  | .rdGpioPin => 0
  | .rdAutoupdate => 0
  | .rdInterval => 0
  | .rdHumidity => 0
  | .rdTemperature => 0
  | .rdData => 0
  | .shutdown => 0

/-- R73: the operand of the operation is one its format admits. -/
def Instr.wellFormed (i : Instr) : Bool :=
  i.format.admits i.operand

/-- The window fits the counter (R10), the watchdog's duration is positive (R11), the wake hold is at least 1 ms (R12)
and the interval at load is in range (R15). -/
def Params.wellFormed (p : Params) : Bool :=
  decide (p.preamble + nBits ≤ 2 ^ cntW) && decide (0 < p.wdUs) && decide (1000 ≤ p.tWakeUs) &&
    (decide (intervalMin ≤ p.intervalReset) && decide (p.intervalReset ≤ intervalMax))

end Sys2Proof
end

