-- ==== Sys2Proof/Decode.lean ====
section
/-! DEFINITION. The operation word (R71): its fields, the decoder with the spec's two kinds of reserved word (R77), the
encoder (R75), and the match and mask patterns of R76. An operation is one 40-bit word on a port: it has no byte order
(R62), and bit 0 of opcode_table.json's numbering is `op[0]`. -/

namespace Sys2Proof

/-- `opc = op[39:32]` (R71). -/
def opcodeField (op : OpWord) : Byte := op.extractLsb' 32 8

/-- `v = op[31:0]` (R71). -/
def operandField (op : OpWord) : Word := op.extractLsb' 0 32

/-- Why a word is no operation (R77). -/
inductive DecodeReject where
  /-- The opcode is not in R75's map. -/
  | reservedOpcode
  /-- A must-be-0 operand bit is 1. -/
  | reservedOperand
  deriving DecidableEq, Repr

/-- Format N: no operand (R73). -/
def decodeNone (v : Word) (i : Instr) : Except DecodeReject Instr :=
  if Format.none.admits v then .ok i else .error .reservedOperand

/-- `v[0]` as the pin level: 0 = LOW, 1 = HIGH (R73). -/
def levelOfBit (v : Word) : Level :=
  if v.getLsbD 0 then .high else .low

/-- Format L: the level of EDGE (R73, R74). -/
def decodeLevel (v : Word) : Except DecodeReject Instr :=
  if Format.level.admits v then .ok (.edge (levelOfBit v)) else .error .reservedOperand

/-- The decoder: R75's opcode map with the operand checks of R78. -/
def decodeWord (op : OpWord) : Except DecodeReject Instr :=
  match (opcodeField op).toNat with
  | 0x01 => decodeLevel (operandField op)
  | 0x02 => decodeNone (operandField op) .wakeRelease
  | 0x03 => decodeNone (operandField op) .wdExpire
  | 0x04 => decodeNone (operandField op) .refreshTick
  | 0x05 => decodeNone (operandField op) .decode
  | 0x11 => .ok (.wrAutoupdate (operandField op))
  | 0x12 => .ok (.wrInterval (operandField op))
  | 0x15 => .ok (.wrTrigger (operandField op))
  | 0x16 => .ok (.wrDebug (operandField op))
  | 0x20 => decodeNone (operandField op) .rdGpioPin
  | 0x21 => decodeNone (operandField op) .rdAutoupdate
  | 0x22 => decodeNone (operandField op) .rdInterval
  | 0x23 => decodeNone (operandField op) .rdHumidity
  | 0x24 => decodeNone (operandField op) .rdTemperature
  | 0x27 => decodeNone (operandField op) .rdData
  | 0x30 => decodeNone (operandField op) .shutdown
  | _ => .error .reservedOpcode

/-- The instruction the decoder reads from `w`, numbered as spec/opcode_table.json numbers its bits: an operation is one
40-bit word (R71), and the bits above `nbits` are 0. -/
def decodeTableWord (nbits w : Nat) : Option Instr :=
  match decodeWord (BitVec.ofNat 40 (w % 2 ^ nbits)) with
  | .ok i => some i
  | .error _ => none

/-- The opcode column of R75. -/
def Instr.opcode : Instr → Byte
  | .edge _ => 0x01
  | .wakeRelease => 0x02
  | .wdExpire => 0x03
  | .refreshTick => 0x04
  | .decode => 0x05
  | .wrAutoupdate _ => 0x11
  | .wrInterval _ => 0x12
  | .wrTrigger _ => 0x15
  | .wrDebug _ => 0x16
  | .rdGpioPin => 0x20
  | .rdAutoupdate => 0x21
  | .rdInterval => 0x22
  | .rdHumidity => 0x23
  | .rdTemperature => 0x24
  | .rdData => 0x27
  | .shutdown => 0x30

/-- The encoder: the opcode above the operand (R71, R75). -/
def encode (i : Instr) : OpWord :=
  (i.opcode ++ i.operand : BitVec (8 + 32))

/-- One row of R76: the word selects the operation when its bits under `mask` are those of `value`. -/
structure OpPattern where
  mask : OpWord
  value : OpWord
  deriving DecidableEq, Repr

/-- The word matches the row (R76). -/
def OpPattern.selects (r : OpPattern) (op : OpWord) : Bool :=
  op &&& r.mask == r.value

/-- The sixteen rows of R76, in its order. -/
def opPatterns : List OpPattern :=
  [⟨0xFFFFFFFFFE, 0x0100000000⟩, ⟨0xFFFFFFFFFF, 0x0200000000⟩, ⟨0xFFFFFFFFFF, 0x0300000000⟩,
   ⟨0xFFFFFFFFFF, 0x0400000000⟩, ⟨0xFFFFFFFFFF, 0x0500000000⟩] ++
  [⟨0xFF00000000, 0x1100000000⟩, ⟨0xFF00000000, 0x1200000000⟩, ⟨0xFF00000000, 0x1500000000⟩,
   ⟨0xFF00000000, 0x1600000000⟩] ++
  [⟨0xFFFFFFFFFF, 0x2000000000⟩, ⟨0xFFFFFFFFFF, 0x2100000000⟩, ⟨0xFFFFFFFFFF, 0x2200000000⟩,
   ⟨0xFFFFFFFFFF, 0x2300000000⟩, ⟨0xFFFFFFFFFF, 0x2400000000⟩, ⟨0xFFFFFFFFFF, 0x2700000000⟩,
   ⟨0xFFFFFFFFFF, 0x3000000000⟩]

end Sys2Proof
end

