-- ==== Sys2Proof/Machine/State.lean ====
section
/-! DEFINITION. Everything the spec gives the block to hold (spec/10_state.md, R24 to R50), as plain data, the reasons a
step can end without a next state, and the state after a successful load (R140). -/

namespace Sys2Proof.Machine

/-- The Capture Session State (R28). -/
inductive Phase where
  /-- No capture in progress. -/
  | idle
  /-- A capture is in flight. -/
  | working
  deriving DecidableEq, Repr

/-- The pin driver's three modes (R34, R136). -/
inductive PinMode where
  /-- `set_output(LOW)`. -/
  | outLow
  /-- `set_output(HIGH)`. -/
  | outHigh
  /-- `set_input()`: floating, pulled up. -/
  | input
  deriving DecidableEq, Repr

/-- The spec's faults (R127). The spec gives a fault its effect: `now` and the sticky mark are written and the block goes
on, so taking one is a NEXT state (`takeFault` of Machine/Ops.lean), and the fault is reported on port `outcome`. No step
of this model ends in `Host.Outcome.fault` (log entry 5). -/
inductive Fault where
  /-- UNWRITTEN_SAMPLE(i): DECODE reads Sample Buffer element i, which holds no value (R100, R127). Safe: the mark makes
  reliance on the value visible. -/
  | unwrittenSample (index : Nat)
  deriving DecidableEq, Repr

/-- What an admitted operation reports on port `outcome` (R123, R128): an outcome code, or the fault it raised. -/
inductive Report where
  | ok
  | triggered
  | busy
  | noop
  | ignored
  | handoff
  | timeout
  | wdIdle
  | cksumOk
  | cksumErr
  | fault (reason : Fault)
  deriving DecidableEq, Repr

/-- Why a step has no next state. The five reasons of R126 stand for inputs the block cannot be given: no state changes
and no outcome is reported, so every one of them is safe. -/
inductive Refusal where
  /-- STOPPED (0x81): raised by `admissionOf` after SHUTDOWN, first of all checks. Safe. -/
  | stopped
  /-- RESERVED_OPCODE (0x82): raised by `admissionOf` for a word whose opcode R75 does not list. Safe. -/
  | reservedOpcode
  /-- RESERVED_OPERAND (0x83): raised by `admissionOf` for a word with a must-be-0 operand bit set. Safe. -/
  | reservedOperand
  /-- TIME_BACKWARDS (0x84): raised by `admissionOf` for a timestamp below `now`. Safe. -/
  | timeBackwards
  /-- NOT_ENABLED (0x85): raised by WAKE_RELEASE, WD_EXPIRE, REFRESH_TICK and DECODE when their enabling condition is
  false. Safe. -/
  | notEnabled
  /-- Not the spec's: raised by `admissionOf` when no operation is presented on the ports (log entry 3). Safe. -/
  | noOperation
  /-- An instruction without a meaning in this model: raised by no arm of `exec`. Safe. -/
  | notModelled (mnemonic : String)
  deriving DecidableEq, Repr

/-- One operation as the environment presents it: the word on port `op` and its timestamp on port `t` (R25, R71, R72). -/
structure PortOp where
  op : OpWord
  t : Stamp
  deriving DecidableEq, Repr

/-- The state `st` of spec/10_state.md with the block's ports (R25) and its parameters (R10 to R15). -/
structure State where
  /-- The implementation's parameters; no operation writes them. -/
  cfg : Params
  /-- Ports `op` and `t` (R25): the operations the environment presents, the next one first (log entry 3). -/
  input : List PortOp
  /-- Port `rdata` (R25): the read data of an RD_* operation, no value after any other operation. -/
  rdata : Option Word
  /-- Port `outcome` (R25, R123): what the last admitted operation reported; none before the first one. -/
  outcome : Option Report
  /-- `st.phase` (R28). -/
  phase : Phase
  /-- `st.cnt`, the Low-Transition Counter (R29). -/
  cnt : Word
  /-- `st.ref`, the Timing Reference Point in microseconds (R30). -/
  ref : Nat
  /-- `st.irq`, the raw interrupt-arrival counter (R31). -/
  irq : Word
  /-- `x[0..39]`, the Sample Buffer: each element holds no value or a duration in microseconds (R32). -/
  x : Vector (Option Word) nBits
  /-- `st.decode_pending` (R33). -/
  decodePending : Bool
  /-- `st.pin_mode` (R34). -/
  pinMode : PinMode
  /-- `st.wd_armed` (R35). -/
  wdArmed : Bool
  /-- `st.wd_deadline` (R35). -/
  wdDeadline : Nat
  /-- `st.wake_armed` (R36). -/
  wakeArmed : Bool
  /-- `st.wake_deadline` (R36). -/
  wakeDeadline : Nat
  /-- `st.ar_armed` (R37). -/
  arArmed : Bool
  /-- `st.ar_deadline` (R37). -/
  arDeadline : Nat
  /-- `st.now`: the timestamp of the most recent admitted operation (R38). -/
  now : Nat
  /-- `st.humidity`, in tenths of a percent (R39). -/
  humidity : Half
  /-- `st.temperature`, two's complement, in tenths of a degree Celsius (R40). -/
  temperature : Half
  /-- `st.autoupdate` (R41). -/
  autoupdate : Bool
  /-- `st.interval`, in seconds (R42). -/
  interval : Half
  /-- `st.debug` (R43). -/
  debug : Bool
  /-- `st.n_trig` (R44). -/
  nTrig : Word
  /-- `st.n_fail` (R45). -/
  nFail : Word
  /-- `st.n_cksum_err` (R46). -/
  nCksumErr : Word
  /-- `st.last_count` (R47). -/
  lastCount : Word
  /-- `st.stopped` (R48). -/
  stopped : Bool
  /-- `st.faulted`, the sticky fault mark on port `fault` (R49, R25). -/
  faulted : Bool
  deriving DecidableEq, Repr

/-- The state right after a successful load with parameters `p` (R140 and the reset value of each element's own rule).
Nothing is presented and nothing has been reported yet (log entries 3 and 6). -/
def State.resetWith (p : Params) : State where
  cfg := p
  input := []
  rdata := none
  outcome := none
  phase := .idle
  cnt := 0
  ref := 0
  irq := 0
  x := Vector.replicate nBits none
  decodePending := false
  pinMode := .outHigh
  wdArmed := false
  wdDeadline := 0
  wakeArmed := false
  wakeDeadline := 0
  arArmed := true
  arDeadline := secondsUs p.intervalReset
  now := 0
  humidity := 0
  temperature := 0
  autoupdate := p.autoupdateReset
  interval := BitVec.ofNat 16 p.intervalReset
  debug := false
  nTrig := 0
  nFail := 0
  nCksumErr := 0
  lastCount := 0
  stopped := false
  faulted := false

/-- The state after reset, under the reference configuration (log entry 1). -/
def State.reset : State := State.resetWith Params.reference

end Sys2Proof.Machine
end

