-- ==== Sys2Proof/Machine/Operands.lean ====
section
/-! DEFINITION. What the operations take from their operands (R74): no operand is sign-extended, scaled or shifted. -/

namespace Sys2Proof.Machine

/-- The Boolean of a configuration write: 0 is off, any other value is on (R74, R113, R115). -/
def boolOfValue (v : Word) : Bool := v != 0

/-- A write of `n` bytes to TRIGGER is non-empty (R74, R93). -/
def nonEmptyWrite (n : Word) : Bool := n != 0

/-- `n` seconds lie in [INTERVAL_MIN, INTERVAL_MAX] (R114). -/
def intervalInRange (n : Word) : Bool :=
  decide (intervalMin ≤ n.toNat) && decide (n.toNat ≤ intervalMax)

/-- The interval register's value for a number of seconds in range, which fits 16 bits (R42, R114). -/
def intervalOfValue (n : Word) : Half := BitVec.ofNat 16 n.toNat

/-- `trunc_32` of a mathematical integer: `v mod 2^32` (R19). -/
def trunc32 (v : Int) : Word := BitVec.ofInt 32 v

end Sys2Proof.Machine
end

