-- ==== Sys2Proof/Machine/Flags.lean ====
section
/-! DEFINITION. The block's one-bit status (R50) as it shows outside: the encodings of `st.phase` and `st.pin_mode`, the
ports (R25), the outcome codes (R123, R126, R127), and when an event source is pending (R78, R129). The block has no
arithmetic condition codes. -/

namespace Sys2Proof.Machine

/-- Idle = 0, Working = 1 (R28). -/
def Phase.bit : Phase → BitVec 1
  | .idle => 0
  | .working => 1

/-- OUT_LOW = 0, OUT_HIGH = 1, INPUT = 2; 3 is never produced (R34). -/
def PinMode.bits : PinMode → BitVec 2
  | .outLow => 0
  | .outHigh => 1
  | .input => 2

/-- Port `pin_oe`: the block drives the pin (R25). -/
def State.pinOe (s : State) : Bool :=
  match s.pinMode with
  | .outLow => true
  | .outHigh => true
  | .input => false

/-- Port `pin_o`: the driven level, 1 exactly in OUT_HIGH (R25). -/
def State.pinO (s : State) : Bool :=
  match s.pinMode with
  | .outLow => false
  | .outHigh => true
  | .input => false

/-- Port `fault` (R25). -/
def State.faultPort (s : State) : Bool := s.faulted

/-- The code of a fault reason (R127). -/
def Fault.code : Fault → Byte
  | .unwrittenSample _ => 0xC0

/-- The 8-bit code on port `outcome` (R123; for a fault R127, and D31 puts it on this port). -/
def Report.code : Report → Byte
  | .ok => 0
  | .triggered => 1
  | .busy => 2
  | .noop => 3
  | .ignored => 4
  | .handoff => 5
  | .timeout => 6
  | .wdIdle => 7
  | .cksumOk => 8
  | .cksumErr => 9
  | .fault r => r.code

/-- The code of a refusal reason (R126); the model's own two reasons have none. -/
def Refusal.code : Refusal → Option Byte
  | .stopped => some 0x81
  | .reservedOpcode => some 0x82
  | .reservedOperand => some 0x83
  | .timeBackwards => some 0x84
  | .notEnabled => some 0x85
  | _ => none

/-- `Enabled(st, WAKE_RELEASE, t)` of R78 at t = `now`. -/
def State.wakeReady (s : State) : Bool := s.wakeArmed && decide (s.wakeDeadline ≤ s.now)

/-- `Enabled(st, WD_EXPIRE, t)` of R78 at t = `now`. -/
def State.wdReady (s : State) : Bool := s.wdArmed && decide (s.wdDeadline ≤ s.now)

/-- `Enabled(st, REFRESH_TICK, t)` of R78 at t = `now`. -/
def State.arReady (s : State) : Bool := s.arArmed && decide (s.arDeadline ≤ s.now)

/-- `Enabled` of R78 at t = `now`, for every operation. -/
def State.enabled (s : State) : Instr → Bool
  | .edge _ => true
  | .wakeRelease => s.wakeReady
  | .wdExpire => s.wdReady
  | .refreshTick => s.arReady
  | .decode => s.decodePending
  | .wrAutoupdate _ => true
  | .wrInterval _ => true
  | .wrTrigger _ => true
  | .wrDebug _ => true
  | .rdGpioPin => true
  | .rdAutoupdate => true
  | .rdInterval => true
  | .rdHumidity => true
  | .rdTemperature => true
  | .rdData => true
  | .shutdown => true

/-- The timer and deferred-work sources of R129 that are pending at `now`, as the operations that serve them; the pin edge
source is pending whenever the environment delivers a transition. The order of the list is R129's and gives no priority
(R130). -/
def State.pendingEvents (s : State) : List Instr :=
  [Instr.wdExpire, .wakeRelease, .refreshTick, .decode].filter s.enabled

end Sys2Proof.Machine
end

