-- ==== Sys2Proof/Machine/Admit.lean ====
section
/-! DEFINITION. Taking the next operation from the ports and the dispatch checks before its rule (R78): stopped, reserved
word, time. The enabling check comes next and is each operation's own (log entry 9). -/

namespace Sys2Proof.Machine

/-- What the checks of R78 say of the presented operation. -/
inductive Admission where
  /-- The operation passes, and its rule runs on this state. -/
  | run (i : Instr) (s : State)
  /-- The operation is refused. -/
  | refuse (r : Refusal)
  deriving DecidableEq, Repr

/-- A reserved word's refusal (R77). -/
def Refusal.ofReject : DecodeReject → Refusal
  | .reservedOpcode => .reservedOpcode
  | .reservedOperand => .reservedOperand

/-- `st.now <- t` (R72), with the operation taken from the ports. -/
def takeOperation (rest : List PortOp) (t : Nat) (s : State) : State :=
  { s with input := rest, now := t }

/-- The checks of R78 on a presented operation, in its order, up to the enabling check. -/
def admitOp (p : PortOp) (rest : List PortOp) (s : State) : Admission :=
  if s.stopped then .refuse .stopped
  else
    match decodeWord p.op with
    | .error e => .refuse (Refusal.ofReject e)
    | .ok i => if p.t.toNat < s.now then .refuse .timeBackwards else .run i (takeOperation rest p.t.toNat s)

/-- The next operation on the ports, if one is presented. -/
def admissionOf (s : State) : Admission :=
  match s.input with
  | [] => .refuse .noOperation
  | p :: rest => admitOp p rest s

/-- After a refusal the environment goes on with what it presents next: the state is as it was (R126; log entry 4). -/
def State.dropPresented (s : State) : State := { s with input := s.input.drop 1 }

/-- The earliest timestamp that is not before `now` and, for a timer operation, not before its deadline. -/
def State.stampFor (s : State) (i : Instr) : Nat :=
  match i with
  | .edge _ => s.now
  | .wakeRelease => max s.now s.wakeDeadline
  | .wdExpire => max s.now s.wdDeadline
  | .refreshTick => max s.now s.arDeadline
  | .decode => s.now
  | .wrAutoupdate _ => s.now
  | .wrInterval _ => s.now
  | .wrTrigger _ => s.now
  | .wrDebug _ => s.now
  | .rdGpioPin => s.now
  | .rdAutoupdate => s.now
  | .rdInterval => s.now
  | .rdHumidity => s.now
  | .rdTemperature => s.now
  | .rdData => s.now
  | .shutdown => s.now

/-- The presentation of a word at the earliest timestamp at which the block could be given it (log entry 13). -/
def State.presentation (s : State) (op : OpWord) : PortOp :=
  match decodeWord op with
  | .ok i => ⟨op, BitVec.ofNat 64 (s.stampFor i)⟩
  | .error _ => ⟨op, BitVec.ofNat 64 s.now⟩

end Sys2Proof.Machine
end

