-- ==== Sys2Proof/Machine/Ops.lean ====
section
/-! DEFINITION. The operations over the state that the meanings share: reporting on the ports, taking a fault (the one
exception of the block, R127; it has no traps and no return, R132), the Sample Buffer, and the host's register map. The
timestamp t of an operation is `now` of the state it runs on, which dispatch has written (R72, R78). -/

namespace Sys2Proof.Machine

/-- `emit Outcome(code)` (R22, R123): the report goes to port `outcome`, and port `rdata` holds no value after an
operation that reads nothing (R25). -/
def report (r : Report) (s : State) : State :=
  { s with outcome := some r, rdata := none }

/-- `return v` of a read operation (R22): the value goes to port `rdata`, and the outcome is OK (R123). -/
def reportRead (v : Option Word) (s : State) : State :=
  { s with outcome := some .ok, rdata := v }

/-- `raise Fault(reason)` (R22, R127): the operation makes none of its other writes; the sticky mark is set. `now` is
already the operation's timestamp. -/
def takeFault (r : Fault) (s : State) : State :=
  { report (.fault r) s with faulted := true }

/-- `x[i] <- v` (R20). -/
def storeSample (i : Nat) (v : Word) (s : State) : State :=
  { s with x := s.x.setIfInBounds i (some v) }

/-- `x[i]` (R20); none where the element holds no value. -/
def sampleAt (x : Vector (Option Word) nBits) (i : Nat) : Option Word :=
  if h : i < nBits then x[i] else none

/-- The registers of the host's register map (R57). -/
inductive HostReg where
  | gpioPin
  | autoupdate
  | interval
  | humidity
  | temperature
  | trigger
  | debug
  | data
  deriving DecidableEq, Repr

/-- The address column of R57. -/
def HostReg.addr : HostReg → Nat
  | .gpioPin => 0x0
  | .autoupdate => 0x1
  | .interval => 0x2
  | .humidity => 0x3
  | .temperature => 0x4
  | .trigger => 0x5
  | .debug => 0x6
  | .data => 0x7

/-- The read operation column of R57, none where the table marks "—" (R59). -/
def HostReg.readOp : HostReg → Option Instr
  | .gpioPin => some .rdGpioPin
  | .autoupdate => some .rdAutoupdate
  | .interval => some .rdInterval
  | .humidity => some .rdHumidity
  | .temperature => some .rdTemperature
  | .trigger => none
  | .debug => none
  | .data => some .rdData

/-- The write operation column of R57 for a written value, none where the table marks "—" (R59). -/
def HostReg.writeOp (v : Word) : HostReg → Option Instr
  | .gpioPin => none
  | .autoupdate => some (.wrAutoupdate v)
  | .interval => some (.wrInterval v)
  | .humidity => none
  | .temperature => none
  | .trigger => some (.wrTrigger v)
  | .debug => some (.wrDebug v)
  | .data => none

/-- `MemRead(a, 1)` (R58); none for the two write-only registers, which no operation reads (R59). -/
def memRead (r : HostReg) (s : State) : Option Word :=
  match r with
  | .gpioPin => some s.cfg.gpioPin
  | .autoupdate => some ((BitVec.ofBool s.autoupdate).zeroExtend 32)
  | .interval => some (s.interval.zeroExtend 32)
  | .humidity => some (s.humidity.zeroExtend 32)
  | .temperature => some (s.temperature.signExtend 32)
  | .trigger => none
  | .debug => none
  | .data => some (s.humidity ++ s.temperature : BitVec (16 + 16))

end Sys2Proof.Machine
end

