-- ==== Sys2Proof/Machine/FrameDecoder.lean ====
section
/-! DEFINITION. The Frame Decoder (spec/42_decoder.md): the pulse-width decoder (R102 to R105), the frame checksum
validator (R106, R107) and the operation DECODE. -/

namespace Sys2Proof.Machine

/-- The five bytes of a frame (R60, R103): four data bytes and the checksum byte. -/
structure Frame where
  b0 : Byte
  b1 : Byte
  b2 : Byte
  b3 : Byte
  b4 : Byte
  deriving DecidableEq, Repr

/-- The bytes in transmission order (R60). -/
def Frame.bytes (f : Frame) : List Byte := [f.b0, f.b1, f.b2, f.b3, f.b4]

/-- A duration strictly greater than THRESH_US is a 1 (R102). -/
def bitOfSample (d : Word) : Bool := decide (threshUs < d.toNat)

/-- `bit[i]` (R102). An element that holds no value gives no bit that is ever used: DECODE faults first (R100). -/
def bitAt (x : Vector (Option Word) nBits) (i : Nat) : Bool :=
  match sampleAt x i with
  | some d => bitOfSample d
  | none => false

/-- `b[k]`, the sum over j in 0..7 of `bit[8k + j] * 2^(7 - j)` (R103). -/
def byteAt (x : Vector (Option Word) nBits) (k : Nat) : Byte :=
  BitVec.ofNat 8 ((List.range 8).map fun j => (bitAt x (8 * k + j)).toNat * 2 ^ (7 - j)).sum

/-- The frame the Sample Buffer holds (R103). -/
def frameOf (x : Vector (Option Word) nBits) : Frame where
  b0 := byteAt x 0
  b1 := byteAt x 1
  b2 := byteAt x 2
  b3 := byteAt x 3
  b4 := byteAt x 4

/-- `H = b[0] ++ b[1]` (R104). -/
def Frame.humidity (f : Frame) : Half := (f.b0 ++ f.b1 : BitVec (8 + 8))

/-- `S = b[2][7]` (R105). -/
def Frame.sign (f : Frame) : Bool := f.b2.getLsbD 7

/-- `M = b[2][6:0] ++ b[3]` (R105). -/
def Frame.magnitude (f : Frame) : BitVec 15 := (f.b2.extractLsb' 0 7 ++ f.b3 : BitVec (7 + 8))

/-- `T = -M` if S = 1, else `M` (R105). -/
def Frame.temperature (f : Frame) : Int :=
  if f.sign then -(f.magnitude.toNat : Int) else (f.magnitude.toNat : Int)

/-- `trunc_8(b[0] + b[1] + b[2] + b[3])` (R106). -/
def Frame.sum (f : Frame) : Byte :=
  BitVec.ofNat 8 (f.b0.toNat + f.b1.toNat + f.b2.toNat + f.b3.toNat)

/-- The checksum validator's verdict (R106). -/
def Frame.valid (f : Frame) : Bool := f.b4 == f.sum

/-- The lowest element that holds no value, from `i` on: the one at which DECODE's loop faults (R100). -/
def firstUnwritten (i : Nat) : List (Option Word) → Option Nat
  | [] => none
  | none :: _ => some i
  | some _ :: rest => firstUnwritten (i + 1) rest

/-- `st.humidity <- H` and `st.temperature <- T`, as s16 (R100, R107). -/
def commitReading (f : Frame) (s : State) : State :=
  { s with humidity := f.humidity, temperature := BitVec.ofInt 16 f.temperature }

/-- `st.n_cksum_err <- trunc_32(st.n_cksum_err + 1)` (R107). -/
def countCksumErr (s : State) : State := { s with nCksumErr := s.nCksumErr + 1 }

/-- The reading is committed on a valid checksum, and the frame discarded and counted otherwise (R107). -/
def commitFrame (f : Frame) (s : State) : State :=
  if f.valid then report .cksumOk (commitReading f s) else report .cksumErr (countCksumErr s)

/-- `st.decode_pending <- 0`, the first write of DECODE (R101). -/
def dequeueDecode (s : State) : State := { s with decodePending := false }

/-- The session returns to Idle and the pin is driven high, on both verdicts (R108). -/
def finishDecode (s : State) : State := { s with phase := .idle, pinMode := .outHigh }

/-- DECODE (R100), enabled by R78; it faults on an element that holds no value, with none of its other writes (R127). -/
def execDecode (s : State) : Host.Outcome State Fault Refusal :=
  if s.decodePending then
    match firstUnwritten 0 s.x.toList with
    | some i => .next (takeFault (.unwrittenSample i) s)
    | none => .next (finishDecode (commitFrame (frameOf s.x) (dequeueDecode s)))
  else .refused .notEnabled

end Sys2Proof.Machine
end

