-- ==== Sys2Proof/Machine/Sequencer.lean ====
section
/-! DEFINITION. The Acquisition Sequencer (spec/41_sequencer.md): RequestTrigger and the operations WR_TRIGGER,
WAKE_RELEASE, WD_EXPIRE and REFRESH_TICK. -/

namespace Sys2Proof.Machine

/-- AcceptTrigger(t) of R91: counters reset, session Working, watchdog armed, the wake sequence's low phase begun. -/
def acceptTrigger (s : State) : State :=
  report .triggered
    { s with
      cnt := 0
      irq := 0
      nTrig := s.nTrig + 1
      phase := .working
      wdArmed := true
      wdDeadline := s.now + s.cfg.wdUs
      ref := s.now
      pinMode := .outLow
      wakeArmed := true
      wakeDeadline := s.now + s.cfg.tWakeUs }

/-- RequestTrigger(t) (R89): dropped with BUSY while Working (R90), else accepted (R91). -/
def requestTrigger (s : State) : State :=
  match s.phase with
  | .working => report .busy s
  | .idle => acceptTrigger s

/-- What a write of `n` bytes to TRIGGER does (R93). -/
def writeTrigger (n : Word) (s : State) : State :=
  if nonEmptyWrite n then requestTrigger s else report .noop s

/-- WR_TRIGGER n (R93). -/
def execWrTrigger (n : Word) (s : State) : Host.Outcome State Fault Refusal :=
  .next (writeTrigger n s)

/-- The pin is released to input mode and the wake-hold timer disarmed (R94). -/
def releaseWake (s : State) : State :=
  report .ok { s with wakeArmed := false, pinMode := .input }

/-- WAKE_RELEASE (R94), enabled by R78. -/
def execWakeRelease (s : State) : Host.Outcome State Fault Refusal :=
  if s.wakeReady then .next (releaseWake s) else .refused .notEnabled

/-- The watchdog is disarmed, and the transition count it observed kept (R95). -/
def closeWatchdog (s : State) : State := { s with wdArmed := false, lastCount := s.irq }

/-- The full frame never arrived: the failure is counted and the session returns to Idle (R95). -/
def failSession (s : State) : State := { s with nFail := s.nFail + 1, phase := .idle }

/-- The watchdog's expiry handler (R95): TIMEOUT when the session is still Working, WD_IDLE otherwise. -/
def expireWatchdog (s : State) : State :=
  match s.phase with
  | .working => report .timeout (failSession (closeWatchdog s))
  | .idle => report .wdIdle (closeWatchdog s)

/-- WD_EXPIRE (R95), enabled by R78. -/
def execWdExpire (s : State) : Host.Outcome State Fault Refusal :=
  if s.wdReady then .next (expireWatchdog s) else .refused .notEnabled

/-- The trigger of a refresh tick, if auto-refresh is on (R96). -/
def refreshTrigger (s : State) : State :=
  if s.autoupdate then requestTrigger s else report .ok s

/-- `st.ar_deadline <- t + st.interval * US_PER_S` (R96). -/
def reschedule (s : State) : State :=
  { s with arDeadline := s.now + secondsUs s.interval.toNat }

/-- REFRESH_TICK (R96), enabled by R78. -/
def execRefreshTick (s : State) : Host.Outcome State Fault Refusal :=
  if s.arReady then .next (reschedule (refreshTrigger s)) else .refused .notEnabled

end Sys2Proof.Machine
end

