-- ==== Sys2Proof/Machine/HostInterface.lean ====
section
/-! DEFINITION. The host's operations (spec/43_host.md): configuration writes, register reads and SHUTDOWN. -/

namespace Sys2Proof.Machine

/-- `st.autoupdate <- b` (R41). -/
def setAutoupdate (b : Bool) (s : State) : State := { s with autoupdate := b }

/-- `st.interval <- n` (R42). -/
def setInterval (n : Half) (s : State) : State := { s with interval := n }

/-- `st.debug <- b` (R43). -/
def setDebug (b : Bool) (s : State) : State := { s with debug := b }

/-- `st.autoupdate <- (v != 0)` (R113). -/
def writeAutoupdate (v : Word) (s : State) : State :=
  report .ok (setAutoupdate (boolOfValue v) s)

/-- WR_AUTOUPDATE v (R113). -/
def execWrAutoupdate (v : Word) (s : State) : Host.Outcome State Fault Refusal :=
  .next (writeAutoupdate v s)

/-- The interval is written when in range, and the write ignored otherwise (R114). -/
def writeInterval (n : Word) (s : State) : State :=
  if intervalInRange n then report .ok (setInterval (intervalOfValue n) s) else report .ignored s

/-- WR_INTERVAL n (R114). -/
def execWrInterval (n : Word) (s : State) : Host.Outcome State Fault Refusal :=
  .next (writeInterval n s)

/-- `st.debug <- (v != 0)` (R115). -/
def writeDebug (v : Word) (s : State) : State :=
  report .ok (setDebug (boolOfValue v) s)

/-- WR_DEBUG v (R115). -/
def execWrDebug (v : Word) (s : State) : Host.Outcome State Fault Refusal :=
  .next (writeDebug v s)

/-- `MemWrite(a, 1, v)` (R21): the effect of the register's write operation; none for a read-only register (R59). -/
def memWrite (r : HostReg) (v : Word) (s : State) : Option State :=
  match r with
  | .gpioPin => none
  | .autoupdate => some (writeAutoupdate v s)
  | .interval => some (writeInterval v s)
  | .humidity => none
  | .temperature => none
  | .trigger => some (writeTrigger v s)
  | .debug => some (writeDebug v s)
  | .data => none

/-- RD_GPIO_PIN (R116). -/
def execRdGpioPin (s : State) : Host.Outcome State Fault Refusal :=
  .next (reportRead (memRead .gpioPin s) s)

/-- RD_AUTOUPDATE (R117). -/
def execRdAutoupdate (s : State) : Host.Outcome State Fault Refusal :=
  .next (reportRead (memRead .autoupdate s) s)

/-- RD_INTERVAL (R118). -/
def execRdInterval (s : State) : Host.Outcome State Fault Refusal :=
  .next (reportRead (memRead .interval s) s)

/-- RD_HUMIDITY (R119). -/
def execRdHumidity (s : State) : Host.Outcome State Fault Refusal :=
  .next (reportRead (memRead .humidity s) s)

/-- RD_TEMPERATURE (R120). -/
def execRdTemperature (s : State) : Host.Outcome State Fault Refusal :=
  .next (reportRead (memRead .temperature s) s)

/-- RD_DATA (R121). -/
def execRdData (s : State) : Host.Outcome State Fault Refusal :=
  .next (reportRead (memRead .data s) s)

/-- Module unload: every timer and the queued decode are cancelled, and the block is stopped (R122). -/
def stopBlock (s : State) : State :=
  report .ok
    { s with wdArmed := false, arArmed := false, wakeArmed := false, decodePending := false, stopped := true }

/-- SHUTDOWN (R122). -/
def execShutdown (s : State) : Host.Outcome State Fault Refusal :=
  .next (stopBlock s)

end Sys2Proof.Machine
end

