-- ==== Sys2Proof/Machine/Recorder.lean ====
section
/-! DEFINITION. The Edge Timestamp Recorder (spec/40_recorder.md): EDGE. -/

namespace Sys2Proof.Machine

/-- The counter, before this edge, lies in the data window PREAMBLE .. PREAMBLE + 39 (R83). -/
def inWindow (s : State) : Bool :=
  decide (s.cfg.preamble ≤ s.cnt.toNat) && decide (s.cnt.toNat < s.cfg.preamble + nBits)

/-- The counter, before this edge, is the final in-window index PREAMBLE + 39 (R84). -/
def atFinalIndex (s : State) : Bool :=
  decide (s.cnt.toNat = s.cfg.preamble + (nBits - 1))

/-- The stored duration `trunc_32(t - st.ref)` (R83). -/
def elapsed (s : State) : Word :=
  trunc32 ((s.now : Int) - (s.ref : Int))

/-- `x[c - PREAMBLE] <- trunc_32(t - st.ref)` (R81, R83). -/
def storeInterval (s : State) : State :=
  storeSample (s.cnt.toNat - s.cfg.preamble) (elapsed s) s

/-- The hand-off: the deferred decode is queued, at most once (R84). -/
def handOff (s : State) : State :=
  report .handoff { s with decodePending := true }

/-- The store of an in-window falling edge, and the hand-off at the final index (R83, R84). -/
def recordFalling (s : State) : State :=
  if inWindow s then
    if atFinalIndex s then handOff (storeInterval s) else report .ok (storeInterval s)
  else report .ok s

/-- `st.cnt <- trunc_32(c + 1)` (R81, R85). -/
def countFalling (s : State) : State := { s with cnt := s.cnt + 1 }

/-- The updates every edge makes (R85). -/
def touchReference (s : State) : State := { s with ref := s.now, irq := s.irq + 1 }

/-- EDGE L (R81). -/
def execEdge (level : Level) (s : State) : Host.Outcome State Fault Refusal :=
  match level with
  | .low => .next (touchReference (countFalling (recordFalling s)))
  | .high => .next (touchReference (report .ok s))

end Sys2Proof.Machine
end

