-- ==== Sys2Proof/Machine/Dispatch.lean ====
section
/-! DEFINITION. The rule each operation runs (the rule column of R75). -/

namespace Sys2Proof.Machine

/-- Run the rule of an operation on the state dispatch has prepared: `now` is the operation's timestamp (R78). -/
def exec (i : Instr) (s : State) : Host.Outcome State Fault Refusal :=
  match i with
  -- Edge Timestamp Recorder
  | .edge level => Sys2Proof.Machine.execEdge level s
  -- Acquisition Sequencer
  | .wakeRelease => Sys2Proof.Machine.execWakeRelease s
  | .wdExpire => Sys2Proof.Machine.execWdExpire s
  | .refreshTick => Sys2Proof.Machine.execRefreshTick s
  | .wrTrigger n => Sys2Proof.Machine.execWrTrigger n s
  -- Frame Decoder
  | .decode => Sys2Proof.Machine.execDecode s
  -- host interface
  | .wrAutoupdate v => Sys2Proof.Machine.execWrAutoupdate v s
  | .wrInterval n => Sys2Proof.Machine.execWrInterval n s
  | .wrDebug v => Sys2Proof.Machine.execWrDebug v s
  | .rdGpioPin => Sys2Proof.Machine.execRdGpioPin s
  | .rdAutoupdate => Sys2Proof.Machine.execRdAutoupdate s
  | .rdInterval => Sys2Proof.Machine.execRdInterval s
  | .rdHumidity => Sys2Proof.Machine.execRdHumidity s
  | .rdTemperature => Sys2Proof.Machine.execRdTemperature s
  | .rdData => Sys2Proof.Machine.execRdData s
  | .shutdown => Sys2Proof.Machine.execShutdown s

end Sys2Proof.Machine
end

