-- ==== Sys2Proof/Machine/Step.lean ====
section
/-! DEFINITION. One step of the block (R78): the operation on the ports is admitted and its rule runs, or it is refused. -/

namespace Sys2Proof.Machine

/-- One step: R78. -/
def step (s : State) : Host.Outcome State Fault Refusal :=
  match admissionOf s with
  | .run i s' => exec i s'
  | .refuse r => .refused r

/-- `s` with an operation word presented next on the ports, ahead of what the environment presents after it: the block
fetches no instructions (R27), its operations arrive on port `op`. The timestamp is the earliest one at which the block
could be given the word (log entry 13). -/
def State.withFetchWord (s : State) (nbits w : Nat) : State :=
  { s with input := s.presentation (BitVec.ofNat 40 (w % 2 ^ nbits)) :: s.input }

end Sys2Proof.Machine
end

