-- ==== Sys2Proof/Machine/Assembler.lean ====
section
/-! DEFINITION. The assembly syntax (R79) and the pseudo-operations (R80), which write what the environment presents on the
ports. No operation of the block uses this file. -/

namespace Sys2Proof.Machine

/-- One operation on the ports at time `t` in microseconds. R80 is silent on an expanded edge whose time passes the 64-bit
port; DESIGN CHOICE (log entry 17): it is presented at its time modulo 2^64. -/
def presentAt (op : OpWord) (t : Nat) : PortOp := ⟨op, BitVec.ofNat 64 t⟩

/-- `FALL @t` is `EDGE 0 @t` (R80). -/
def fallAt (t : Nat) : PortOp := presentAt (encode (.edge .low)) t

/-- `RISE @t` is `EDGE 1 @t` (R80). -/
def riseAt (t : Nat) : PortOp := presentAt (encode (.edge .high)) t

/-- `TRIGGER @t` is `WR_TRIGGER 1 @t` (R80). -/
def triggerAt (t : Nat) : PortOp := presentAt (encode (.wrTrigger 1)) t

/-- The high-pulse width of a bit in SENSOR_REPLY: 70 for a 1, 26 for a 0 (R80). -/
def pulseWidth (b : Bool) : Nat := if b then 70 else 26

/-- The edges of the bits after time `t`: a low phase of 50 and the bit's high pulse each (R80). -/
def bitEdges (t : Nat) : List Bool → List PortOp
  | [] => []
  | b :: bs => riseAt (t + 50) :: fallAt (t + 50 + pulseWidth b) :: bitEdges (t + 50 + pulseWidth b) bs

/-- The bits of the bytes in transmission order, each byte's bit 7 first (R80). -/
def bitsOfBytes (bytes : List Byte) : List Bool :=
  bytes.flatMap fun b => [7, 6, 5, 4, 3, 2, 1, 0].map b.getLsbD

/-- The sensor's response before the first bit (R80). -/
def responseEdges (r : Nat) : List PortOp :=
  [riseAt r, fallAt (r + 20), riseAt (r + 100), fallAt (r + 180)]

/-- `SENSOR_BITS k b0 b1 b2 b3 b4 @r` (R80). -/
def sensorBits (k : Nat) (bytes : List Byte) (r : Nat) : List PortOp :=
  responseEdges r ++ bitEdges (r + 180) ((bitsOfBytes bytes).take k)

/-- `SENSOR_REPLY b0 b1 b2 b3 b4 @r` (R80). -/
def sensorReply (b0 b1 b2 b3 b4 : Byte) (r : Nat) : List PortOp := sensorBits nBits [b0, b1, b2, b3, b4] r

/-- What the assembler says of a line that is none. -/
inductive AsmReject where
  /-- The mnemonic is no operation's and no pseudo-operation's. -/
  | unknownMnemonic
  /-- Operands missing, too many, not a number, or too large for their field. -/
  | badOperand
  /-- The timestamp is missing, not a decimal number, or wider than port `t`. -/
  | badTime
  deriving DecidableEq, Repr

/-- The value of a digit, in decimal or hexadecimal. -/
def digitValue (c : Char) : Option Nat :=
  if '0'.toNat ≤ c.toNat ∧ c.toNat ≤ '9'.toNat then some (c.toNat - '0'.toNat)
  else if 'a'.toNat ≤ c.toNat ∧ c.toNat ≤ 'f'.toNat then some (c.toNat - 'a'.toNat + 10)
  else if 'A'.toNat ≤ c.toNat ∧ c.toNat ≤ 'F'.toNat then some (c.toNat - 'A'.toNat + 10)
  else none

/-- The number that digits in a base write, after the value read so far. -/
def digitsValue (base acc : Nat) : List Char → Option Nat
  | [] => some acc
  | c :: cs =>
    match digitValue c with
    | some d => if d < base then digitsValue base (acc * base + d) cs else none
    | none => none

/-- A decimal number (R79). -/
def decimalValue (cs : List Char) : Option Nat :=
  if cs.isEmpty then none else digitsValue 10 0 cs

/-- "a decimal or `0x` hexadecimal number" (R79). -/
def numberValue : List Char → Option Nat
  | '0' :: 'x' :: c :: cs => digitsValue 16 0 (c :: cs)
  | cs => decimalValue cs

/-- A number that fits `w` bits. -/
def fieldValue (w : Nat) (cs : List Char) : Option (BitVec w) :=
  match numberValue cs with
  | some n => if n < 2 ^ w then some (BitVec.ofNat w n) else none
  | none => none

/-- The timestamp `@t`, a decimal number of microseconds for the 64-bit port (R79). -/
def timeValue : List Char → Option Nat
  | '@' :: cs =>
    match decimalValue cs with
    | some n => if n < 2 ^ 64 then some n else none
    | none => none
  | _ => none

/-- The words of a line, up to its comment (R79): they are separated by blanks. -/
def lineWords (word : List Char) : List Char → List (List Char)
  | [] => if word.isEmpty then [] else [word]
  | ';' :: _ => if word.isEmpty then [] else [word]
  | ' ' :: cs => if word.isEmpty then lineWords [] cs else word :: lineWords [] cs
  | c :: cs => lineWords (word ++ [c]) cs

/-- A row of R75: mnemonic, opcode and format. -/
structure MnemonicRow where
  name : List Char
  opcode : Byte
  format : Format
  deriving DecidableEq, Repr

/-- The event operations of R75. -/
def eventMnemonics : List MnemonicRow :=
  [⟨"EDGE".toList, 0x01, .level⟩, ⟨"WAKE_RELEASE".toList, 0x02, .none⟩, ⟨"WD_EXPIRE".toList, 0x03, .none⟩,
   ⟨"REFRESH_TICK".toList, 0x04, .none⟩, ⟨"DECODE".toList, 0x05, .none⟩]

/-- The host's writes of R75. -/
def writeMnemonics : List MnemonicRow :=
  [⟨"WR_AUTOUPDATE".toList, 0x11, .value⟩, ⟨"WR_INTERVAL".toList, 0x12, .value⟩,
   ⟨"WR_TRIGGER".toList, 0x15, .value⟩, ⟨"WR_DEBUG".toList, 0x16, .value⟩]

/-- The host's reads and SHUTDOWN of R75. -/
def readMnemonics : List MnemonicRow :=
  [⟨"RD_GPIO_PIN".toList, 0x20, .none⟩, ⟨"RD_AUTOUPDATE".toList, 0x21, .none⟩, ⟨"RD_INTERVAL".toList, 0x22, .none⟩,
   ⟨"RD_HUMIDITY".toList, 0x23, .none⟩, ⟨"RD_TEMPERATURE".toList, 0x24, .none⟩, ⟨"RD_DATA".toList, 0x27, .none⟩,
   ⟨"SHUTDOWN".toList, 0x30, .none⟩]

/-- The opcode map with its mnemonics (R75). -/
def mnemonics : List MnemonicRow := eventMnemonics ++ writeMnemonics ++ readMnemonics

/-- The word of an operation's line: the operand is present exactly for formats L and V (R79). -/
def assembleWord (opcode : Byte) (f : Format) (operands : List (List Char)) : Option OpWord :=
  match f, operands with
  | .none, [] => some (opcode ++ (0 : Word) : BitVec (8 + 32))
  | .level, [v] => (fieldValue 32 v).map fun n => (opcode ++ n : BitVec (8 + 32))
  | .value, [v] => (fieldValue 32 v).map fun n => (opcode ++ n : BitVec (8 + 32))
  | _, _ => none

/-- The numbers of a list of words, each to fit `w` bits. -/
def fieldValues (w : Nat) : List (List Char) → Option (List (BitVec w))
  | [] => some []
  | cs :: rest =>
    match fieldValue w cs, fieldValues w rest with
    | some v, some vs => some (v :: vs)
    | _, _ => none

/-- The five bytes of a SENSOR_REPLY or SENSOR_BITS line. -/
def replyBytes (operands : List (List Char)) : Option (List Byte) :=
  match fieldValues 8 operands with
  | some bytes => if bytes.length = nBytes then some bytes else none
  | none => none

/-- The expansion of a pseudo-operation (R80); none where the mnemonic is no pseudo-operation's. -/
def expandPseudo (name : List Char) (operands : List (List Char)) (t : Nat) : Option (Except AsmReject (List PortOp)) :=
  if name = "TRIGGER".toList then some (if operands.isEmpty then .ok [triggerAt t] else .error .badOperand)
  else if name = "FALL".toList then some (if operands.isEmpty then .ok [fallAt t] else .error .badOperand)
  else if name = "RISE".toList then some (if operands.isEmpty then .ok [riseAt t] else .error .badOperand)
  else if name = "SENSOR_REPLY".toList then
    match replyBytes operands with
    | some bytes => some (.ok (sensorBits nBits bytes t))
    | none => some (.error .badOperand)
  else if name = "SENSOR_BITS".toList then
    match operands with
    | k :: rest =>
      match numberValue k, replyBytes rest with
      | some n, some bytes => some (if n ≤ nBits then .ok (sensorBits n bytes t) else .error .badOperand)
      | _, _ => some (.error .badOperand)
    | [] => some (.error .badOperand)
  else none

/-- A line's operations from its mnemonic, its operands and its time. -/
def assembleWords (name : List Char) (operands : List (List Char)) (t : Nat) : Except AsmReject (List PortOp) :=
  match expandPseudo name operands t with
  | some r => r
  | none =>
    match mnemonics.find? fun row => row.name == name with
    | some row =>
      match assembleWord row.opcode row.format operands with
      | some op => .ok [presentAt op t]
      | none => .error .badOperand
    | none => .error .unknownMnemonic

/-- The operations that one line of assembly presents (R79, R80); an empty line and a comment present none. -/
def assembleLine (line : List Char) : Except AsmReject (List PortOp) :=
  match lineWords [] line with
  | [] => .ok []
  | name :: rest =>
    match rest.getLast? with
    | some last =>
      match timeValue last with
      | some t => assembleWords name rest.dropLast t
      | none => .error .badTime
    | none => .error .badTime

end Sys2Proof.Machine
end

