-- ==== Sys2Proof/Machine/Load.lean ====
section
/-! DEFINITION. Load (R140 to R143): the environment acquires the resources in the spec's order, and load yields the state
after reset or fails. Acquisition itself is outside the block (R5); which resource fails, if any, is the environment's
choice and an argument here. -/

namespace Sys2Proof.Machine

/-- What the environment must provide (R143). -/
inductive Resource where
  /-- The pin, acquired and exported. -/
  | pin
  /-- The interrupt line for pin edges. -/
  | interruptLine
  /-- The microsecond time base. -/
  | timeBase
  /-- The deferred-work facility and the timer facility. -/
  | deferredWorkAndTimers
  /-- The published attributes and the device node. -/
  | publishedSurface
  deriving DecidableEq, Repr

/-- R143's order. -/
def acquisitionOrder : List Resource :=
  [.pin, .interruptLine, .timeBase, .deferredWorkAndTimers, .publishedSurface]

/-- What load returns (R141). -/
inductive LoadResult where
  /-- The block exists, in its state after reset. -/
  | loaded (s : State)
  /-- LOAD_FAILED: no block exists; the acquired resources, in the order of their release. -/
  | loadFailed (released : List Resource)
  deriving DecidableEq, Repr

/-- Load with parameters `p`, where acquiring the resource `fails`, if any, fails (R140, R141). A new load is a new
instance: nothing carries over (R142). -/
def load (p : Params) (fails : Option Resource) : LoadResult :=
  match fails with
  | none => .loaded (State.resetWith p)
  | some r => .loadFailed (acquisitionOrder.takeWhile (· != r)).reverse

end Sys2Proof.Machine
end

