-- ==== Sys2Proof/Safety.lean ====
section
/-! DEFINITION. What the statements about the block are said in: which parts of the state two states share (the groups of
spec/10_state.md, for frames), the invariant of the block, the states a run can reach, and a safe state (R127). -/

namespace Sys2Proof.Machine

/-- The two states have the same Sample Buffer. -/
def sameBuffer (s t : State) : Prop := ∀ i (h : i < nBits), t.x[i] = s.x[i]

/-- The two states have the same Low-Transition Counter, Timing Reference Point and arrival counter (R29 to R31). -/
def sameCounters (s t : State) : Prop := t.cnt = s.cnt ∧ t.ref = s.ref ∧ t.irq = s.irq

/-- The two states have the same watchdog (R35). -/
def sameWatchdog (s t : State) : Prop := t.wdArmed = s.wdArmed ∧ t.wdDeadline = s.wdDeadline

/-- The two states have the same wake-hold timer (R36). -/
def sameWakeHold (s t : State) : Prop := t.wakeArmed = s.wakeArmed ∧ t.wakeDeadline = s.wakeDeadline

/-- The two states have the same auto-refresh timer (R37). -/
def sameRefresh (s t : State) : Prop := t.arArmed = s.arArmed ∧ t.arDeadline = s.arDeadline

/-- The two states have the same Decoded Reading (R39, R40). -/
def sameReading (s t : State) : Prop := t.humidity = s.humidity ∧ t.temperature = s.temperature

/-- The two states have the same configuration (R41 to R43). -/
def sameSettings (s t : State) : Prop :=
  t.autoupdate = s.autoupdate ∧ t.interval = s.interval ∧ t.debug = s.debug

/-- The two states have the same Diagnostics Counters (R44 to R47). -/
def sameDiagnostics (s t : State) : Prop :=
  t.nTrig = s.nTrig ∧ t.nFail = s.nFail ∧ t.nCksumErr = s.nCksumErr ∧ t.lastCount = s.lastCount

/-- The two states have the same lifecycle and fault marks (R48, R49). -/
def sameMarks (s t : State) : Prop := t.stopped = s.stopped ∧ t.faulted = s.faulted

/-- The two states have the same parameters, presented operations and time: what no operation's rule writes. -/
def sameSurroundings (s t : State) : Prop := t.cfg = s.cfg ∧ t.input = s.input ∧ t.now = s.now

/-- Every element of the Sample Buffer holds a value. -/
def bufferWritten (s : State) : Prop := ∀ i (h : i < nBits), ∃ d, s.x[i] = some d

/-- The invariant of the block. -/
structure Inv (s : State) : Prop where
  /-- The parameters are in their ranges (R10, R11, R12, R15). -/
  parameters : s.cfg.wellFormed = true
  /-- A Working session has an armed watchdog until SHUTDOWN (R55, R122; log entry 10). -/
  watchdogArmed : s.stopped = false → s.phase = .working → s.wdArmed = true
  /-- The auto-refresh timer stays armed until SHUTDOWN (R37, R129). -/
  refreshArmed : s.stopped = false → s.arArmed = true
  /-- After SHUTDOWN nothing is armed or queued (R122). -/
  stoppedQuiet : s.stopped = true →
    s.wdArmed = false ∧ s.wakeArmed = false ∧ s.arArmed = false ∧ s.decodePending = false
  /-- The interval register is in range (R42). -/
  intervalLow : 3 ≤ s.interval.toNat
  /-- The interval register is in range (R42). -/
  intervalHigh : s.interval.toNat ≤ 60000
  /-- The temperature is at least -32767 (R40). -/
  temperatureRange : -32767 ≤ s.temperature.toInt
  /-- The Timing Reference Point is not ahead of time (R83). -/
  referencePast : s.ref ≤ s.now
  /-- Time came through the 64-bit port (R38). -/
  timeOnPort : s.now < 2 ^ 64
  /-- Every window element that the counter has passed is written (R110). -/
  windowWritten : ∀ i (h : i < nBits), s.cfg.preamble + i < s.cnt.toNat → ∃ d, s.x[i] = some d
  /-- A queued decode finds every element written (R110). -/
  pendingWritten : s.decodePending = true → bufferWritten s

/-- The states a run of a block with parameters `p` reaches: from a successful load (R140), with the environment
presenting any operations at any time (R67, R130), by steps. -/
inductive Reachable (p : Params) : State → Prop where
  | load : Reachable p (State.resetWith p)
  | present {s : State} (ops : List PortOp) : Reachable p s → Reachable p { s with input := ops }
  | step {s t : State} : Reachable p s → Sys2Proof.Machine.step s = .next t → Reachable p t

/-- "`st.faulted` = 0", the premise of the spec's claims (R127). -/
def safe (s : State) : Prop := s.faulted = false

end Sys2Proof.Machine
end

