-- ==== Sys2Proof/Certificates/Slice0/Obligations.lean ====
section
/-! DEFINITION. The statements about the block, from the numbered rules of spec/. The timestamp t of an operation is `now`
of the state `exec` runs it on (R72, R78); where a statement gives the whole next state as an update of the old one, every
field it does not name is unchanged, port fields included. `rdata := none` is R25's "It holds no value after any other
operation" (log entry 6), and a fault's report on port `outcome` is D31's (log entry 5). Where a docstring says "the spec's
own inference", the spec marks the sentence as derived. -/

open Sys2Proof Sys2Proof.Machine

/-! ### Encoding -/

/-- Decoding an encoded operation gives it back, for every operation and operand (R71, R73, R75). -/
def Obligations.DecodeOfEncodeIsTheInstruction : Prop :=
  ∀ i : Instr, decodeWord (encode i) = .ok i

/-- A word has one meaning: what decodes to an operation is that operation's encoding (R71, R75, R77). -/
def Obligations.DecodedWordIsItsEncoding : Prop :=
  ∀ (op : OpWord) (i : Instr), decodeWord op = .ok i → encode i = op

/-- R76: a pattern selects exactly the words of its operation and every operation has its pattern; no two overlap (the
spec's own inference: "No two patterns overlap, so a word matches at most one operation"). -/
def Obligations.PatternsSelectTheOperationsAndNeverOverlap : Prop :=
  ∀ op : OpWord,
    (∀ r ∈ opPatterns,
      (r.selects op = true ↔ ∃ i, decodeWord op = .ok i ∧ i.opcode = opcodeField r.value)) ∧
    (∀ i, decodeWord op = .ok i → ∃ r ∈ opPatterns, r.selects op = true) ∧
    opPatterns.Pairwise fun r r' => ¬(r.selects op = true ∧ r'.selects op = true)

/-- Words of each family, written out from R76, decode to their operations; level bit 0 is LOW (R73). -/
def Obligations.FamilyWordsDecode : Prop :=
  decodeWord 0b0000000100000000000000000000000000000000 = .ok (.edge .low) ∧
  decodeWord 0b0000000100000000000000000000000000000001 = .ok (.edge .high) ∧
  decodeWord 0b0000001000000000000000000000000000000000 = .ok .wakeRelease ∧
  decodeWord 0b0001010100000000000000000000000000000001 = .ok (.wrTrigger 1) ∧
  decodeWord 0b0000010100000000000000000000000000000000 = .ok .decode ∧
  decodeWord 0b0001001000000000000000001110101001100000 = .ok (.wrInterval 60000) ∧
  decodeWord 0b0010011100000000000000000000000000000000 = .ok .rdData

/-- R57, R21: the read operation of the register at address a has opcode 0x20 + a and the write operation 0x10 + a with
the written value as its operand, and a write to the register is that operation's effect. -/
def Obligations.RegisterOperationsFollowTheRegisterMap : Prop :=
  ∀ (r : HostReg) (v : Word) (s : State),
    (∀ i, r.readOp = some i → i.opcode.toNat = 0x20 + r.addr) ∧
    (∀ i, r.writeOp v = some i → i.opcode.toNat = 0x10 + r.addr ∧ i.operand = v ∧
      ∃ t, memWrite r v s = some t ∧ exec i s = .next t) ∧
    (r.writeOp v = none → memWrite r v s = none) ∧
    (r.readOp = none → memRead r s = none)

/-! ### Dispatch -/

/-- R78: an admitted word runs its operation's rule on the state with `now` written and the operation taken from the
ports. -/
def Obligations.StepRunsTheDecodedInstruction : Prop :=
  ∀ (s : State) (p : PortOp) (rest : List PortOp) (i : Instr),
    s.input = p :: rest → s.stopped = false → decodeWord p.op = .ok i → s.now ≤ p.t.toNat →
    step s = exec i { s with input := rest, now := p.t.toNat }

/-- R126 (with R78): the checks in their order, the first that fails refuses the operation, and the reasons' codes. -/
def Obligations.DispatchRefusesInOrder : Prop :=
  ∀ (s : State) (p : PortOp) (rest : List PortOp), s.input = p :: rest →
    (s.stopped = true → step s = .refused .stopped) ∧
    (s.stopped = false →
      (decodeWord p.op = .error .reservedOpcode → step s = .refused .reservedOpcode) ∧
      (decodeWord p.op = .error .reservedOperand → step s = .refused .reservedOperand) ∧
      (∀ i, decodeWord p.op = .ok i →
        (p.t.toNat < s.now → step s = .refused .timeBackwards) ∧
        (s.now ≤ p.t.toNat → State.enabled { s with now := p.t.toNat } i = false →
          step s = .refused .notEnabled) ∧
        (s.now ≤ p.t.toNat → State.enabled { s with now := p.t.toNat } i = true → ∃ t, step s = .next t))) ∧
    [Refusal.stopped, .reservedOpcode, .reservedOperand, .timeBackwards, .notEnabled].map Refusal.code =
      [some 0x81, some 0x82, some 0x83, some 0x84, some 0x85]

/-- R77: an opcode outside R75's map is RESERVED_OPCODE; a defined opcode with a must-be-0 operand bit set is
RESERVED_OPERAND. -/
def Obligations.ReservedWordsAreRefusedByKind : Prop :=
  ∀ op : OpWord,
    ((opcodeField op).toNat ∉
        [0x01, 0x02, 0x03, 0x04, 0x05, 0x11, 0x12, 0x15, 0x16, 0x20, 0x21, 0x22, 0x23, 0x24, 0x27, 0x30] ↔
      decodeWord op = .error .reservedOpcode) ∧
    (((opcodeField op).toNat ∈ [0x02, 0x03, 0x04, 0x05, 0x20, 0x21, 0x22, 0x23, 0x24, 0x27, 0x30] ∧
          operandField op ≠ 0 ∨
        (opcodeField op).toNat = 0x01 ∧ 2 ≤ (operandField op).toNat) ↔
      decodeWord op = .error .reservedOperand)

/-- The model's convention (log entry 3): with no operation on the ports the block takes no step. -/
def Obligations.NoStepWithoutAPresentedOperation : Prop :=
  ∀ s : State, s.input = [] → step s = .refused .noOperation

/-- R78: an operation whose enabling condition holds completes, and one whose condition does not is NOT_ENABLED; nothing
else stops an operation. -/
def Obligations.OperationsCompleteExactlyWhenEnabled : Prop :=
  ∀ (i : Instr) (s : State),
    (s.enabled i = true → ∃ t, exec i s = .next t) ∧ (s.enabled i = false → exec i s = .refused .notEnabled)

/-- R72: a step consumes the presented operation, writes its timestamp to `now`, and time never runs backwards. -/
def Obligations.StepsCarryTimeForward : Prop :=
  ∀ s t : State, step s = .next t →
    s.now ≤ t.now ∧ ∃ p rest, s.input = p :: rest ∧ t.now = p.t.toNat ∧ t.input = rest

/-- R25, R123: every admitted operation reports; read data stand on port `rdata` exactly after a read; a code is one of
0 to 9, or 0xC0 for a fault. -/
def Obligations.EveryAdmittedOperationReportsOnce : Prop :=
  ∀ (i : Instr) (s t : State), exec i s = .next t →
    (∃ r, t.outcome = some r ∧ (r.code.toNat ≤ 9 ∨ r.code = 0xC0 ∧ i = .decode ∧ t.faulted = true)) ∧
    (t.rdata.isSome = true ↔
      i ∈ [Instr.rdGpioPin, .rdAutoupdate, .rdInterval, .rdHumidity, .rdTemperature, .rdData])

/-! ### Edge Timestamp Recorder -/

/-- R81, R83, R85: an in-window falling edge stores the interval since the Timing Reference Point, modulo 2^32, at index
c - PREAMBLE, then counts and moves the reference. -/
def Obligations.FallingEdgeInWindowStoresTheInterval : Prop :=
  ∀ s : State, s.cfg.preamble ≤ s.cnt.toNat → s.cnt.toNat < s.cfg.preamble + nBits →
    ∃ t, exec (.edge .low) s = .next t ∧
      (∀ i (h : i < nBits), i = s.cnt.toNat - s.cfg.preamble →
        ∃ d, t.x[i] = some d ∧ (d.toNat : Int) = ((s.now : Int) - (s.ref : Int)) % 2 ^ 32) ∧
      (∀ i (h : i < nBits), i ≠ s.cnt.toNat - s.cfg.preamble → t.x[i] = s.x[i]) ∧
      t.cnt = s.cnt + 1 ∧ t.ref = s.now ∧ t.irq = s.irq + 1

/-- R83, R85: a falling edge outside the window is counted and timestamped, and nothing is stored or handed off. -/
def Obligations.FallingEdgeOutsideWindowStoresNothing : Prop :=
  ∀ s : State, s.cnt.toNat < s.cfg.preamble ∨ s.cfg.preamble + nBits ≤ s.cnt.toNat →
    exec (.edge .low) s =
      .next { s with cnt := s.cnt + 1, ref := s.now, irq := s.irq + 1, outcome := some .ok, rdata := none }

/-- R85, R87 item 4: a rising edge changes only the Timing Reference Point and the arrival counter. -/
def Obligations.RisingEdgeOnlyMovesTheReference : Prop :=
  ∀ s : State,
    exec (.edge .high) s = .next { s with ref := s.now, irq := s.irq + 1, outcome := some .ok, rdata := none }

/-- R84: a falling edge queues the decode and reports HANDOFF exactly at counter value PREAMBLE + 39; a queued decode
stays queued. -/
def Obligations.HandOffExactlyAtTheFinalIndex : Prop :=
  ∀ s : State, ∃ t, exec (.edge .low) s = .next t ∧
    (s.cnt.toNat = s.cfg.preamble + 39 → t.decodePending = true ∧ t.outcome = some .handoff) ∧
    (s.cnt.toNat ≠ s.cfg.preamble + 39 → t.decodePending = s.decodePending ∧ t.outcome = some .ok)

/-- R86: EDGE never touches the session state, the pin, a timer, the reading, the configuration, the diagnostics
counters or the marks. -/
def Obligations.EdgeTouchesOnlyTheCapture : Prop :=
  ∀ (l : Level) (s : State), ∃ t, exec (.edge l) s = .next t ∧
    t.phase = s.phase ∧ t.pinMode = s.pinMode ∧
    sameWatchdog s t ∧ sameWakeHold s t ∧ sameRefresh s t ∧ sameReading s t ∧ sameSettings s t ∧
    sameDiagnostics s t ∧ sameMarks s t ∧ sameSurroundings s t

/-- R86: EDGE does not read the session state: an edge while Idle is processed as one while Working. -/
def Obligations.EdgeDoesNotReadTheSessionState : Prop :=
  ∀ (l : Level) (s : State) (p : Phase), ∃ t,
    exec (.edge l) s = .next t ∧ exec (.edge l) { s with phase := p } = .next { t with phase := p }

/-- R81 to R85: a rising edge and the in-window falling edge after it store the time between them, the high pulse's
width modulo 2^32. -/
def Obligations.HighPulseWidthIsMeasured : Prop :=
  ∀ (s u v : State) (time : Nat), s.cfg.preamble ≤ s.cnt.toNat → s.cnt.toNat < s.cfg.preamble + nBits →
    s.now ≤ time → exec (.edge .high) s = .next u → exec (.edge .low) { u with now := time } = .next v →
    ∃ (h : s.cnt.toNat - s.cfg.preamble < nBits),
      v.x[s.cnt.toNat - s.cfg.preamble] = some (BitVec.ofNat 32 (time - s.now))

/-! ### Acquisition Sequencer -/

/-- R89, R93: WR_TRIGGER's empty write is no trigger, and every non-empty write is one RequestTrigger, whatever its
length. -/
def Obligations.AnyNonEmptyWriteRequestsOneTrigger : Prop :=
  ∀ s : State,
    (Instr.wrTrigger 0).opcode = 0x15 ∧ (Instr.wrTrigger 0).format = .value ∧
    exec (.wrTrigger 0) s = .next { s with outcome := some .noop, rdata := none } ∧
    ∀ n : Word, n ≠ 0 → exec (.wrTrigger n) s = .next (requestTrigger s)

/-- R90: a trigger while Working is dropped with BUSY and writes no state. -/
def Obligations.BusyTriggerChangesNothing : Prop :=
  ∀ (s : State) (n : Word), s.phase = .working → n ≠ 0 →
    exec (.wrTrigger n) s = .next { s with outcome := some .busy, rdata := none }

/-- R91: what an accepted trigger writes, and what it leaves: the Sample Buffer, a queued decode, the reading, the other
counters, the auto-refresh timer, the configuration and the marks. -/
def Obligations.AcceptedTriggerStartsASession : Prop :=
  ∀ (s : State) (n : Word), s.phase = .idle → n ≠ 0 →
    ∃ t, exec (.wrTrigger n) s = .next t ∧
      t.cnt = 0 ∧ t.irq = 0 ∧ t.nTrig = s.nTrig + 1 ∧ t.phase = .working ∧
      t.wdArmed = true ∧ t.wdDeadline = s.now + s.cfg.wdUs ∧ t.ref = s.now ∧ t.pinMode = .outLow ∧
      t.wakeArmed = true ∧ t.wakeDeadline = s.now + s.cfg.tWakeUs ∧ t.outcome = some .triggered ∧
      sameBuffer s t ∧ t.decodePending = s.decodePending ∧ sameReading s t ∧
      t.nFail = s.nFail ∧ t.nCksumErr = s.nCksumErr ∧ t.lastCount = s.lastCount ∧
      sameRefresh s t ∧ sameSettings s t ∧ sameMarks s t ∧ sameSurroundings s t

/-- R94: WAKE_RELEASE releases the pin at or after its deadline, whatever the session, and is refused otherwise. -/
def Obligations.WakeReleaseReleasesThePin : Prop :=
  ∀ s : State,
    Instr.wakeRelease.opcode = 0x02 ∧ Instr.wakeRelease.format = .none ∧
    (s.wakeArmed = true → s.wakeDeadline ≤ s.now →
      exec .wakeRelease s =
        .next { s with wakeArmed := false, pinMode := .input, outcome := some .ok, rdata := none }) ∧
    (s.wakeArmed = false ∨ s.now < s.wakeDeadline → exec .wakeRelease s = .refused .notEnabled)

/-- R95: the watchdog's expiry ends a Working session as a failure, only keeps the books in Idle, and is refused while
disarmed or early. -/
def Obligations.WatchdogExpiryByPhase : Prop :=
  ∀ s : State,
    Instr.wdExpire.opcode = 0x03 ∧ Instr.wdExpire.format = .none ∧
    (s.wdArmed = true → s.wdDeadline ≤ s.now →
      (s.phase = .working →
        exec .wdExpire s =
          .next { s with
            wdArmed := false, lastCount := s.irq, nFail := s.nFail + 1, phase := .idle
            outcome := some .timeout, rdata := none }) ∧
      (s.phase = .idle →
        exec .wdExpire s =
          .next { s with wdArmed := false, lastCount := s.irq, outcome := some .wdIdle, rdata := none })) ∧
    (s.wdArmed = false ∨ s.now < s.wdDeadline → exec .wdExpire s = .refused .notEnabled)

/-- R96: a refresh tick requests a trigger exactly when auto-refresh is on, and reschedules itself from the firing time
in every case; it is refused while disarmed or early. -/
def Obligations.RefreshTickTriggersWhenEnabledAndReschedules : Prop :=
  ∀ s : State,
    Instr.refreshTick.opcode = 0x04 ∧ Instr.refreshTick.format = .none ∧
    (s.arArmed = true → s.arDeadline ≤ s.now →
      (s.autoupdate = true →
        exec .refreshTick s =
          .next { requestTrigger s with arDeadline := s.now + 1000000 * s.interval.toNat }) ∧
      (s.autoupdate = false →
        exec .refreshTick s =
          .next { s with
            arDeadline := s.now + 1000000 * s.interval.toNat, outcome := some .ok, rdata := none })) ∧
    (s.arArmed = false ∨ s.now < s.arDeadline → exec .refreshTick s = .refused .notEnabled)

/-- R97 (the spec's own inference: "`st.phase` changes only as below"): the table, with its other effects; a DECODE that
finds an unwritten sample faults and makes none of its writes (R127), so its rows speak of a written buffer. -/
def Obligations.SessionStateChangesOnlyAsTabled : Prop :=
  ∀ (i : Instr) (s t : State), exec i s = .next t →
    (∀ n, i = .wrTrigger n → n ≠ 0 → s.phase = .idle → t.phase = .working ∧ t.outcome = some .triggered) ∧
    (i = .refreshTick → s.autoupdate = true → s.phase = .idle →
      t.phase = .working ∧ t.outcome = some .triggered ∧ t.arDeadline = s.now + 1000000 * s.interval.toNat) ∧
    (∀ n, i = .wrTrigger n → n ≠ 0 → s.phase = .working →
      t = { s with outcome := some .busy, rdata := none }) ∧
    (i = .refreshTick → s.autoupdate = true → s.phase = .working →
      t = { s with
        arDeadline := s.now + 1000000 * s.interval.toNat, outcome := some .busy, rdata := none }) ∧
    (i = .wdExpire → s.phase = .working →
      t.phase = .idle ∧ t.nFail = s.nFail + 1 ∧ t.outcome = some .timeout) ∧
    (i = .wdExpire → s.phase = .idle → t.phase = .idle ∧ t.outcome = some .wdIdle) ∧
    (i = .decode → bufferWritten s → t.phase = .idle) ∧
    (t.phase ≠ s.phase →
      (∃ n, i = .wrTrigger n ∧ n ≠ 0) ∨ (i = .refreshTick ∧ s.autoupdate = true) ∨ i = .wdExpire ∨ i = .decode)

/-- R98 (the spec's own inference: "Both orders are admitted"): with the session Working, the watchdog due and a decode
queued, both orders end Idle: decoder first gives WD_IDLE and no failure, watchdog first gives TIMEOUT and one failure;
a valid frame is committed either way. -/
def Obligations.WatchdogAndDecoderMayRunInEitherOrder : Prop :=
  ∀ s : State, s.phase = .working → s.wdArmed = true → s.wdDeadline ≤ s.now → s.decodePending = true →
    bufferWritten s →
    (∃ t u, exec .decode s = .next t ∧ exec .wdExpire t = .next u ∧ u.outcome = some .wdIdle ∧
      u.nFail = s.nFail ∧ u.phase = .idle ∧
      ((frameOf s.x).valid = true →
        u.humidity = (frameOf s.x).humidity ∧ u.temperature.toInt = (frameOf s.x).temperature)) ∧
    (∃ t u, exec .wdExpire s = .next t ∧ t.outcome = some .timeout ∧ exec .decode t = .next u ∧
      u.nFail = s.nFail + 1 ∧ u.phase = .idle ∧
      ((frameOf s.x).valid = true → u.outcome = some .cksumOk ∧
        u.humidity = (frameOf s.x).humidity ∧ u.temperature.toInt = (frameOf s.x).temperature))

/-- R99, R151 (the spec's own inferences: "the old watchdog can never time out the new session"): after an accepted
trigger the watchdog cannot fire before its new deadline, whatever was armed before; from then on its expiry ends the
session as a failure with no reading published, and the next trigger is accepted. -/
def Obligations.TimedOutSessionRecovers : Prop :=
  ∀ (s t : State) (n : Word), s.phase = .idle → n ≠ 0 → exec (.wrTrigger n) s = .next t →
    (∀ time, time < s.now + s.cfg.wdUs → exec .wdExpire { t with now := time } = .refused .notEnabled) ∧
    (∀ time, s.now + s.cfg.wdUs ≤ time →
      ∃ u, exec .wdExpire { t with now := time } = .next u ∧ u.phase = .idle ∧ u.nFail = s.nFail + 1 ∧
        sameReading s u ∧ ∃ v, exec (.wrTrigger n) u = .next v ∧ v.outcome = some .triggered ∧ v.cnt = 0 ∧ v.irq = 0)

/-- R147 (the spec's own inference: "DECODE then sets `st.phase` = Idle"): a decode of an earlier session that runs
after a later trigger was accepted ends the new session in Idle with the pin high while the watchdog stays armed, which
then fires as WD_IDLE. -/
def Obligations.StaleDecodeEndsTheNewSession : Prop :=
  ∀ (s t : State) (n : Word), s.phase = .idle → n ≠ 0 → s.decodePending = true → bufferWritten s →
    exec (.wrTrigger n) s = .next t →
    ∃ u, exec .decode t = .next u ∧ u.phase = .idle ∧ u.pinMode = .outHigh ∧ sameCounters t u ∧
      u.wdArmed = true ∧ u.wdDeadline = s.now + s.cfg.wdUs ∧
      ∀ time, s.now + s.cfg.wdUs ≤ time →
        ∃ v, exec .wdExpire { u with now := time } = .next v ∧ v.outcome = some .wdIdle ∧ v.nFail = s.nFail

/-! ### Frame Decoder -/

/-- R60, R102, R103: sample 8k + j gives bit 7 - j of byte k, 1 exactly when the duration is greater than 50 µs. -/
def Obligations.SamplesGiveTheFrameBits : Prop :=
  ∀ (x : Vector (Option Word) nBits) (k j : Nat), k < 5 → j < 8 →
    ∀ (h : 8 * k + j < nBits) (d : Word), x[8 * k + j] = some d →
      (((frameOf x).bytes.getD k 0).getLsbD (7 - j) = true ↔ 50 < d.toNat)

/-- R101, R104 to R108: a valid frame is committed in tenths, humidity unsigned and temperature by sign and magnitude,
and the session returns to Idle with the pin high. -/
def Obligations.ValidFrameIsCommitted : Prop :=
  ∀ (s : State) (f : Frame), s.decodePending = true → bufferWritten s → frameOf s.x = f →
    f.b4.toNat = (f.b0.toNat + f.b1.toNat + f.b2.toNat + f.b3.toNat) % 256 →
    ∃ t, exec .decode s = .next t ∧
      t.humidity.toNat = 256 * f.b0.toNat + f.b1.toNat ∧
      (f.b2.toNat < 128 → t.temperature.toInt = ((256 * f.b2.toNat + f.b3.toNat : Nat) : Int)) ∧
      (128 ≤ f.b2.toNat → t.temperature.toInt = -((256 * (f.b2.toNat - 128) + f.b3.toNat : Nat) : Int)) ∧
      t.outcome = some .cksumOk ∧ t.nCksumErr = s.nCksumErr ∧ t.faulted = s.faulted ∧
      t.decodePending = false ∧ t.phase = .idle ∧ t.pinMode = .outHigh

/-- R101, R106 to R108: an invalid frame is discarded with the reading untouched and counted, and the session returns to
Idle with the pin high. -/
def Obligations.InvalidFrameIsDiscarded : Prop :=
  ∀ (s : State) (f : Frame), s.decodePending = true → bufferWritten s → frameOf s.x = f →
    f.b4.toNat ≠ (f.b0.toNat + f.b1.toNat + f.b2.toNat + f.b3.toNat) % 256 →
    ∃ t, exec .decode s = .next t ∧
      sameReading s t ∧ t.outcome = some .cksumErr ∧ t.nCksumErr = s.nCksumErr + 1 ∧ t.faulted = s.faulted ∧
      t.decodePending = false ∧ t.phase = .idle ∧ t.pinMode = .outHigh

/-- R109: on either verdict and on a fault, DECODE leaves the counters, the Sample Buffer, every timer, the other
diagnostics counters and the configuration. -/
def Obligations.DecodeTouchesNoCaptureTimerOrConfiguration : Prop :=
  ∀ s : State, s.decodePending = true →
    ∃ t, exec .decode s = .next t ∧
      sameCounters s t ∧ sameBuffer s t ∧ sameWatchdog s t ∧ sameWakeHold s t ∧ sameRefresh s t ∧
      t.nTrig = s.nTrig ∧ t.nFail = s.nFail ∧ t.lastCount = s.lastCount ∧
      sameSettings s t ∧ t.stopped = s.stopped ∧ sameSurroundings s t

/-- R109, R112 (the spec's own inference: "DECODE's results depend only on `x[0..39]`"): what DECODE commits depends on
the Sample Buffer alone: two states with the same buffer, whatever else they hold, report the same verdict, and on a
valid frame get the same reading. -/
def Obligations.DecodeDependsOnTheBufferAlone : Prop :=
  ∀ s s' t t' : State, sameBuffer s s' → exec .decode s = .next t → exec .decode s' = .next t' →
    t.outcome = t'.outcome ∧ (t.outcome = some .cksumOk → sameReading t t')

/-- R127: DECODE at an element that holds no value faults: it reports the lowest such element, sets the sticky mark and
makes no other write. -/
def Obligations.DecodeOfAnUnwrittenSampleFaults : Prop :=
  ∀ (s : State) (i : Nat) (h : i < nBits), s.decodePending = true → s.x[i] = none →
    (∀ j (_ : j < i), s.x[j] ≠ none) →
    exec .decode s =
      .next { s with outcome := some (.fault (.unwrittenSample i)), rdata := none, faulted := true }

/-- R112 (the spec's own inference: "Involution"): temperature decode is an involution on sign and magnitude, and the
register holds the signed value. -/
def Obligations.TemperatureDecodeIsAnInvolution : Prop :=
  ∀ (m : Nat) (sign : Bool) (f : Frame), m ≤ 0x7FFF →
    f.b2.toNat = 0x80 * sign.toNat + m / 256 → f.b3.toNat = m % 256 →
    f.sign = sign ∧ f.magnitude.toNat = m ∧
    (BitVec.ofInt 16 f.temperature).toInt = if sign then -(m : Int) else (m : Int)

/-- R60, R61, R102 to R108, R119 to R121: pulses that carry four data bytes and their checksum, of any widths on the
right side of the threshold, are decoded to the reading that the host's registers then return. -/
def Obligations.PulsesOfAValidFrameReachTheHostRegisters : Prop :=
  ∀ (s : State) (data : Fin 5 → Byte), s.decodePending = true → bufferWritten s →
    (∀ (k : Fin 5) (j : Nat), j < 8 → ∀ (h : 8 * k.val + j < nBits) (d : Word),
      s.x[8 * k.val + j] = some d → (50 < d.toNat ↔ (data k).getLsbD (7 - j) = true)) →
    (data 4).toNat = ((data 0).toNat + (data 1).toNat + (data 2).toNat + (data 3).toNat) % 256 →
    ∃ t, exec .decode s = .next t ∧ t.outcome = some .cksumOk ∧
      (∃ u, exec .rdHumidity t = .next u ∧
        ∃ v, u.rdata = some v ∧ v.toNat = 256 * (data 0).toNat + (data 1).toNat) ∧
      (∃ u, exec .rdTemperature t = .next u ∧
        ∃ v, u.rdata = some v ∧
          v.toInt = (if (data 2).toNat < 128 then ((256 * (data 2).toNat + (data 3).toNat : Nat) : Int)
            else -((256 * ((data 2).toNat - 128) + (data 3).toNat : Nat) : Int))) ∧
      (∃ u, exec .rdData t = .next u ∧
        ∃ v, u.rdata = some v ∧ v.toNat / 65536 = 256 * (data 0).toNat + (data 1).toNat ∧
          v.toNat % 65536 = t.temperature.toNat)

/-! ### Host interface -/

/-- R113, R115: WR_AUTOUPDATE and WR_DEBUG set their own flag to "the value is not 0" and write nothing else. -/
def Obligations.BooleanWritesSetTheirFlag : Prop :=
  ∀ (s : State) (v : Word),
    (Instr.wrAutoupdate v).opcode = 0x11 ∧ (Instr.wrAutoupdate v).format = .value ∧
    (Instr.wrDebug v).opcode = 0x16 ∧ (Instr.wrDebug v).format = .value ∧
    exec (.wrAutoupdate v) s =
      .next { s with autoupdate := decide (v.toNat ≠ 0), outcome := some .ok, rdata := none } ∧
    exec (.wrDebug v) s = .next { s with debug := decide (v.toNat ≠ 0), outcome := some .ok, rdata := none }

/-- R114: an interval of 3 to 60000 seconds is written, any other value is ignored, and the auto-refresh deadline does
not move. -/
def Obligations.IntervalWriteIsRangeChecked : Prop :=
  ∀ (s : State) (n : Word),
    (Instr.wrInterval n).opcode = 0x12 ∧ (Instr.wrInterval n).format = .value ∧
    (3 ≤ n.toNat → n.toNat ≤ 60000 →
      ∃ t, exec (.wrInterval n) s = .next t ∧ t.interval.toNat = n.toNat ∧
        t = { s with interval := t.interval, outcome := some .ok, rdata := none }) ∧
    (n.toNat < 3 ∨ 60000 < n.toNat →
      exec (.wrInterval n) s = .next { s with outcome := some .ignored, rdata := none })

/-- R58, R116 to R121: what each read returns; the temperature is sign-extended. -/
def Obligations.ReadsReturnTheirRegisters : Prop :=
  ∀ s : State,
    [Instr.rdGpioPin, .rdAutoupdate, .rdInterval, .rdHumidity, .rdTemperature, .rdData].map Instr.opcode =
      [0x20, 0x21, 0x22, 0x23, 0x24, 0x27] ∧
    (∃ t, exec .rdGpioPin s = .next t ∧ t.rdata = some s.cfg.gpioPin) ∧
    (∃ t v, exec .rdAutoupdate s = .next t ∧ t.rdata = some v ∧ v.toNat = s.autoupdate.toNat) ∧
    (∃ t v, exec .rdInterval s = .next t ∧ t.rdata = some v ∧ v.toNat = s.interval.toNat) ∧
    (∃ t v, exec .rdHumidity s = .next t ∧ t.rdata = some v ∧ v.toNat = s.humidity.toNat) ∧
    (∃ t v, exec .rdTemperature s = .next t ∧ t.rdata = some v ∧ v.toInt = s.temperature.toInt) ∧
    (∃ t v, exec .rdData s = .next t ∧ t.rdata = some v ∧
      v.toNat = 65536 * s.humidity.toNat + s.temperature.toNat)

/-- R58, R65: a read writes no state, and repeating it gives the same read data. -/
def Obligations.ReadsWriteNoState : Prop :=
  ∀ (i : Instr) (s : State),
    i ∈ [Instr.rdGpioPin, .rdAutoupdate, .rdInterval, .rdHumidity, .rdTemperature, .rdData] →
    ∃ t, exec i s = .next t ∧ t = { s with outcome := some .ok, rdata := t.rdata } ∧
      exec i t = .next t

/-- R113, R114, R117, R118: a configuration write is what the next read returns. -/
def Obligations.WrittenConfigurationReadsBack : Prop :=
  ∀ (s t : State) (v : Word),
    (exec (.wrAutoupdate v) s = .next t →
      ∃ u r, exec .rdAutoupdate t = .next u ∧ u.rdata = some r ∧ r.toNat = if v.toNat = 0 then 0 else 1) ∧
    (exec (.wrInterval v) s = .next t → 3 ≤ v.toNat → v.toNat ≤ 60000 →
      ∃ u, exec .rdInterval t = .next u ∧ u.rdata = some v) ∧
    (exec (.wrInterval v) s = .next t → v.toNat < 3 ∨ 60000 < v.toNat →
      ∃ u, exec .rdInterval t = .next u ∧ u.rdata = memRead .interval s)

/-- R57, R59: no host write changes what a read-only register reads. -/
def Obligations.HostWritesKeepTheReadOnlyRegisters : Prop :=
  ∀ (i : Instr) (s t : State) (v : Word) (r : HostReg),
    i ∈ [Instr.wrAutoupdate v, .wrInterval v, .wrTrigger v, .wrDebug v] → r.writeOp v = none →
    exec i s = .next t → memRead r t = memRead r s

/-- R122, R48: SHUTDOWN cancels every timer and the queued decode and leaves the pin, the session, the reading and the
counters; whatever is presented afterwards, reserved words included, is STOPPED. -/
def Obligations.ShutdownCancelsEverythingAndStops : Prop :=
  ∀ s : State, Instr.shutdown.opcode = 0x30 ∧ Instr.shutdown.format = .none ∧
    ∃ t, exec .shutdown s = .next t ∧
      t.wdArmed = false ∧ t.arArmed = false ∧ t.wakeArmed = false ∧ t.decodePending = false ∧
      t.stopped = true ∧ t.outcome = some .ok ∧
      t.pinMode = s.pinMode ∧ t.phase = s.phase ∧ sameCounters s t ∧ sameBuffer s t ∧ sameReading s t ∧
      sameDiagnostics s t ∧ sameSettings s t ∧ t.faulted = s.faulted ∧ sameSurroundings s t ∧
      ∀ (p : PortOp) (rest : List PortOp), step { t with input := p :: rest } = .refused .stopped

/-! ### State elements over all operations -/

/-- R54 (the spec's own inference: "only overwritten when the checksum byte equals"): a step overwrites the Decoded
Reading only by a DECODE of a frame whose checksum byte is the low 8 bits of the sum of its four data bytes. -/
def Obligations.ReadingIsOverwrittenOnlyByAValidFrame : Prop :=
  ∀ (i : Instr) (s t : State), exec i s = .next t → t.humidity ≠ s.humidity ∨ t.temperature ≠ s.temperature →
    i = .decode ∧
      (byteAt s.x 4).toNat =
        ((byteAt s.x 0).toNat + (byteAt s.x 1).toNat + (byteAt s.x 2).toNat + (byteAt s.x 3).toNat) % 256

/-- R32, R53: the Sample Buffer is written only by a falling EDGE, one element inside the window, and never cleared. -/
def Obligations.SampleBufferIsWrittenOnlyByInWindowEdges : Prop :=
  ∀ (i : Instr) (s t : State) (k : Nat) (h : k < nBits), exec i s = .next t →
    (t.x[k] ≠ s.x[k] → i = .edge .low ∧ s.cnt.toNat = s.cfg.preamble + k) ∧
    (∀ d, s.x[k] = some d → ∃ d', t.x[k] = some d')

/-- R44 to R47: each Diagnostics Counter moves exactly on its own event. -/
def Obligations.DiagnosticsCountersMoveOnlyOnTheirEvents : Prop :=
  ∀ (i : Instr) (s t : State), exec i s = .next t →
    t.nTrig = (if t.outcome = some .triggered then s.nTrig + 1 else s.nTrig) ∧
    t.nFail = (if t.outcome = some .timeout then s.nFail + 1 else s.nFail) ∧
    t.nCksumErr = (if t.outcome = some .cksumErr then s.nCksumErr + 1 else s.nCksumErr) ∧
    t.lastCount = (if i = .wdExpire then s.irq else s.lastCount)

/-- R34: the pin mode is written only by an accepted trigger (OUT_LOW), WAKE_RELEASE (INPUT) and DECODE (OUT_HIGH). -/
def Obligations.PinModeIsWrittenOnlyByItsThreeWriters : Prop :=
  ∀ (i : Instr) (s t : State), exec i s = .next t →
    (t.outcome = some .triggered → t.pinMode = .outLow) ∧
    (i = .wakeRelease → t.pinMode = .input) ∧
    (t.outcome = some .cksumOk ∨ t.outcome = some .cksumErr → i = .decode ∧ t.pinMode = .outHigh) ∧
    (t.pinMode ≠ s.pinMode →
      t.outcome = some .triggered ∨ i = .wakeRelease ∨ t.outcome = some .cksumOk ∨ t.outcome = some .cksumErr)

/-- R35 to R37: who arms and disarms each timer. -/
def Obligations.TimersAreArmedAndDisarmedOnlyByTheirWriters : Prop :=
  ∀ (i : Instr) (s t : State), exec i s = .next t →
    t.wdArmed =
      (if t.outcome = some .triggered then true
       else if i = .wdExpire ∨ i = .shutdown then false else s.wdArmed) ∧
    t.wdDeadline = (if t.outcome = some .triggered then s.now + s.cfg.wdUs else s.wdDeadline) ∧
    t.wakeArmed =
      (if t.outcome = some .triggered then true
       else if i = .wakeRelease ∨ i = .shutdown then false else s.wakeArmed) ∧
    t.wakeDeadline = (if t.outcome = some .triggered then s.now + s.cfg.tWakeUs else s.wakeDeadline) ∧
    t.arArmed = (if i = .shutdown then false else s.arArmed) ∧
    t.arDeadline = (if i = .refreshTick then s.now + 1000000 * s.interval.toNat else s.arDeadline)

/-- R41 to R43: the parameters never change, and each configuration field only by its own write operation. -/
def Obligations.ConfigurationIsWrittenOnlyByItsOwnOperation : Prop :=
  ∀ (i : Instr) (s t : State), exec i s = .next t →
    t.cfg = s.cfg ∧
    (t.autoupdate ≠ s.autoupdate → ∃ v, i = .wrAutoupdate v) ∧
    (t.interval ≠ s.interval → ∃ n, i = .wrInterval n) ∧
    (t.debug ≠ s.debug → ∃ v, i = .wrDebug v)

/-- R48, R49: only SHUTDOWN sets `stopped`, only a faulting DECODE sets `faulted`, and neither mark is ever cleared. -/
def Obligations.MarksAreSticky : Prop :=
  ∀ (i : Instr) (s t : State), exec i s = .next t →
    (t.stopped = true ↔ s.stopped = true ∨ i = .shutdown) ∧
    (t.faulted = true ↔ s.faulted = true ∨ ∃ k, t.outcome = some (.fault (.unwrittenSample k)) ∧ i = .decode)

/-! ### Reset, load and the invariant -/

/-- R140 and the reset values of R28 to R49: the state after a successful load with any parameters, for the load of log
entry 15. -/
def Obligations.LoadLeavesTheResetState : Prop :=
  ∀ p : Params, p.wellFormed = true → ∃ s, load p none = .loaded s ∧
    s.phase = .idle ∧ s.pinMode = .outHigh ∧ s.cnt = 0 ∧ s.ref = 0 ∧ s.irq = 0 ∧
    (∀ i (h : i < nBits), s.x[i] = none) ∧ s.decodePending = false ∧
    s.wdArmed = false ∧ s.wdDeadline = 0 ∧ s.wakeArmed = false ∧ s.wakeDeadline = 0 ∧
    s.arArmed = true ∧ s.arDeadline = 1000000 * p.intervalReset ∧ s.now = 0 ∧
    s.humidity = 0 ∧ s.temperature = 0 ∧ s.autoupdate = p.autoupdateReset ∧
    s.interval.toNat = p.intervalReset ∧ s.debug = false ∧
    s.nTrig = 0 ∧ s.nFail = 0 ∧ s.nCksumErr = 0 ∧ s.lastCount = 0 ∧ s.stopped = false ∧ s.faulted = false

/-- R141, R143: a load yields the state after reset, or, where acquiring a resource fails, no block, and releases what
it acquired in reverse order; that the failing resource is an argument is the model's choice (log entry 15). -/
def Obligations.FailedLoadReleasesInReverseOrder : Prop :=
  ∀ (p : Params) (r : Resource), load p none = .loaded (State.resetWith p) ∧ ∃ acquired later,
    acquisitionOrder = acquired ++ r :: later ∧ load p (some r) = .loadFailed acquired.reverse

/-- A successful load gives a state in the invariant, which is the model's (Safety.lean cites each clause's rule). -/
def Obligations.LoadedStateSatisfiesTheInvariant : Prop :=
  ∀ p : Params, p.wellFormed = true → Inv (State.resetWith p)

/-- Every step keeps the invariant, which is the model's, from every state that satisfies it. -/
def Obligations.EveryStepKeepsTheInvariant : Prop :=
  ∀ s t : State, Inv s → step s = .next t → Inv t

/-- Under the invariant, which is the model's (it says what R110's argument uses), no step raises a fault. -/
def Obligations.NoStepFaultsUnderTheInvariant : Prop :=
  ∀ s t : State, Inv s → step s = .next t → t.faulted = s.faulted ∧ ∀ k, t.outcome ≠ some (.fault k)

/-- R110 (the spec's own inference: "DECODE never faults with UNWRITTEN_SAMPLE in a reachable state"), R127: no
reachable state is faulted, whatever the environment presents, for every choice of parameters. -/
def Obligations.ReachableStatesAreSafe : Prop :=
  ∀ (p : Params) (s : State), p.wellFormed = true → Reachable p s → safe s

/-- R55 (the spec's own inference), with the premise that SHUTDOWN (R122) forces (log entry 10): until the block is
stopped, a Working session has an armed watchdog; every step keeps this, from every state in which it holds. -/
def Obligations.WorkingSessionKeepsAnArmedWatchdog : Prop :=
  ∀ s t : State, (s.stopped = false → s.phase = .working → s.wdArmed = true) → step s = .next t →
    (t.stopped = false → t.phase = .working → t.wdArmed = true)

/-- R55 word for word, without that premise. Expected to fail: SHUTDOWN disarms the watchdog and leaves the session
Working (R122). -/
def Obligations.WorkingImpliesArmedInEveryReachableState : Prop :=
  ∀ (p : Params) (s : State), Reachable p s → s.phase = .working → s.wdArmed = true

/-- R80: SENSOR_REPLY expands to 84 EDGE operations, whatever its bytes. -/
def Obligations.SensorReplyIsEightyFourEdges : Prop :=
  ∀ (b0 b1 b2 b3 b4 : Byte) (r : Nat),
    (sensorReply b0 b1 b2 b3 b4 r).length = 84 ∧
    ∀ p ∈ sensorReply b0 b1 b2 b3 b4 r, ∃ l, decodeWord p.op = .ok (.edge l)
end

