-- ==== Sys2Proof/Laws/Decode.lean ====
section
/-! SUPPORT. The fields of an encoded word, the operand checks, and what the decoder reads for each opcode. -/

namespace Sys2Proof

@[simp] theorem opcodeField_encode (i : Instr) : opcodeField (encode i) = i.opcode :=
  BitVec.extractLsb'_append_eq_left

@[simp] theorem operandField_encode (i : Instr) : operandField (encode i) = i.operand :=
  BitVec.extractLsb'_append_eq_right

/-- A word is its two fields. -/
theorem word_eq_append_fields (op : OpWord) : (opcodeField op ++ operandField op : BitVec (8 + 32)) = op := by
  apply BitVec.eq_of_getLsbD_eq
  intro i hi
  rw [BitVec.getLsbD_append]
  simp only [opcodeField, operandField, BitVec.getLsbD_extractLsb']
  split
  · rename_i h
    simp [h]
  · rename_i h
    simp [show i - 32 < 8 by omega, show 32 + (i - 32) = i by omega]

theorem admits_none_iff (v : Word) : Format.none.admits v = true ↔ v = 0 := by
  simp [Format.admits]

theorem admits_level_iff (v : Word) : Format.level.admits v = true ↔ v = 0 ∨ v = 1 := by
  simp only [Format.admits, beq_iff_eq]
  constructor
  · intro h
    have h2 : v.toNat / 2 = 0 := by simpa [BitVec.toNat_eq, Nat.shiftRight_eq_div_pow] using h
    rcases (show v.toNat = 0 ∨ v.toNat = 1 by omega) with h3 | h3
    · exact .inl (BitVec.eq_of_toNat_eq (by simpa using h3))
    · exact .inr (BitVec.eq_of_toNat_eq (by simpa using h3))
  · rintro (rfl | rfl) <;> rfl

theorem decodeNone_ok (v : Word) (i j : Instr) : decodeNone v i = .ok j ↔ v = 0 ∧ i = j := by
  simp only [decodeNone, admits_none_iff]
  split <;> simp_all

theorem decodeNone_error (v : Word) (i : Instr) (e : DecodeReject) :
    decodeNone v i = .error e ↔ v ≠ 0 ∧ e = .reservedOperand := by
  simp only [decodeNone, admits_none_iff]
  split <;> simp_all [eq_comm (a := e)]

theorem decodeLevel_ok (v : Word) (j : Instr) :
    decodeLevel v = .ok j ↔ (v = 0 ∧ j = .edge .low) ∨ (v = 1 ∧ j = .edge .high) := by
  simp only [decodeLevel, admits_level_iff]
  split
  · rename_i h
    rcases h with rfl | rfl <;> simp [levelOfBit, eq_comm (a := j)]
  · simp_all

theorem decodeLevel_error (v : Word) (e : DecodeReject) :
    decodeLevel v = .error e ↔ (v ≠ 0 ∧ v ≠ 1) ∧ e = .reservedOperand := by
  simp only [decodeLevel, admits_level_iff]
  split
  · rename_i h
    rcases h with rfl | rfl <;> simp
  · simp_all [eq_comm (a := e)]

end Sys2Proof
end

