-- ==== Sys2Proof/Laws/State.lean ====
section
/-! SUPPORT. What each named update of State writes and leaves, field by field: each theorem is one simp rule per field,
true by rfl, so that no proof unfolds a record update. -/

namespace Sys2Proof.Machine

@[simp] theorem report_fields (r : Report) (s : State) :
    (report r s).cfg = s.cfg ∧ (report r s).input = s.input ∧ (report r s).rdata = none ∧
    (report r s).outcome = some r ∧ (report r s).phase = s.phase ∧ (report r s).cnt = s.cnt ∧
    (report r s).ref = s.ref ∧ (report r s).irq = s.irq ∧ (report r s).x = s.x ∧
    (report r s).decodePending = s.decodePending ∧ (report r s).pinMode = s.pinMode ∧
    (report r s).wdArmed = s.wdArmed ∧ (report r s).wdDeadline = s.wdDeadline ∧
    (report r s).wakeArmed = s.wakeArmed ∧ (report r s).wakeDeadline = s.wakeDeadline ∧
    (report r s).arArmed = s.arArmed ∧ (report r s).arDeadline = s.arDeadline ∧ (report r s).now = s.now ∧
    (report r s).humidity = s.humidity ∧ (report r s).temperature = s.temperature ∧
    (report r s).autoupdate = s.autoupdate ∧ (report r s).interval = s.interval ∧ (report r s).debug = s.debug ∧
    (report r s).nTrig = s.nTrig ∧ (report r s).nFail = s.nFail ∧ (report r s).nCksumErr = s.nCksumErr ∧
    (report r s).lastCount = s.lastCount ∧ (report r s).stopped = s.stopped ∧ (report r s).faulted = s.faulted := by
  simp [report]

@[simp] theorem reportRead_fields (v : Option Word) (s : State) :
    (reportRead v s).cfg = s.cfg ∧ (reportRead v s).input = s.input ∧ (reportRead v s).rdata = v ∧
    (reportRead v s).outcome = some .ok ∧ (reportRead v s).phase = s.phase ∧ (reportRead v s).cnt = s.cnt ∧
    (reportRead v s).ref = s.ref ∧ (reportRead v s).irq = s.irq ∧ (reportRead v s).x = s.x ∧
    (reportRead v s).decodePending = s.decodePending ∧ (reportRead v s).pinMode = s.pinMode ∧
    (reportRead v s).wdArmed = s.wdArmed ∧ (reportRead v s).wdDeadline = s.wdDeadline ∧
    (reportRead v s).wakeArmed = s.wakeArmed ∧ (reportRead v s).wakeDeadline = s.wakeDeadline ∧
    (reportRead v s).arArmed = s.arArmed ∧ (reportRead v s).arDeadline = s.arDeadline ∧
    (reportRead v s).now = s.now ∧ (reportRead v s).humidity = s.humidity ∧
    (reportRead v s).temperature = s.temperature ∧ (reportRead v s).autoupdate = s.autoupdate ∧
    (reportRead v s).interval = s.interval ∧ (reportRead v s).debug = s.debug ∧ (reportRead v s).nTrig = s.nTrig ∧
    (reportRead v s).nFail = s.nFail ∧ (reportRead v s).nCksumErr = s.nCksumErr ∧
    (reportRead v s).lastCount = s.lastCount ∧ (reportRead v s).stopped = s.stopped ∧
    (reportRead v s).faulted = s.faulted := by
  simp [reportRead]

@[simp] theorem takeFault_fields (r : Fault) (s : State) :
    (takeFault r s).cfg = s.cfg ∧ (takeFault r s).input = s.input ∧ (takeFault r s).rdata = none ∧
    (takeFault r s).outcome = some (.fault r) ∧ (takeFault r s).phase = s.phase ∧ (takeFault r s).cnt = s.cnt ∧
    (takeFault r s).ref = s.ref ∧ (takeFault r s).irq = s.irq ∧ (takeFault r s).x = s.x ∧
    (takeFault r s).decodePending = s.decodePending ∧ (takeFault r s).pinMode = s.pinMode ∧
    (takeFault r s).wdArmed = s.wdArmed ∧ (takeFault r s).wdDeadline = s.wdDeadline ∧
    (takeFault r s).wakeArmed = s.wakeArmed ∧ (takeFault r s).wakeDeadline = s.wakeDeadline ∧
    (takeFault r s).arArmed = s.arArmed ∧ (takeFault r s).arDeadline = s.arDeadline ∧ (takeFault r s).now = s.now ∧
    (takeFault r s).humidity = s.humidity ∧ (takeFault r s).temperature = s.temperature ∧
    (takeFault r s).autoupdate = s.autoupdate ∧ (takeFault r s).interval = s.interval ∧
    (takeFault r s).debug = s.debug ∧ (takeFault r s).nTrig = s.nTrig ∧ (takeFault r s).nFail = s.nFail ∧
    (takeFault r s).nCksumErr = s.nCksumErr ∧ (takeFault r s).lastCount = s.lastCount ∧
    (takeFault r s).stopped = s.stopped ∧ (takeFault r s).faulted = true := by
  simp [takeFault, report]

@[simp] theorem storeSample_fields (i : Nat) (v : Word) (s : State) :
    (storeSample i v s).cfg = s.cfg ∧ (storeSample i v s).input = s.input ∧ (storeSample i v s).rdata = s.rdata ∧
    (storeSample i v s).outcome = s.outcome ∧ (storeSample i v s).phase = s.phase ∧
    (storeSample i v s).cnt = s.cnt ∧ (storeSample i v s).ref = s.ref ∧ (storeSample i v s).irq = s.irq ∧
    (storeSample i v s).x = s.x.setIfInBounds i (some v) ∧ (storeSample i v s).decodePending = s.decodePending ∧
    (storeSample i v s).pinMode = s.pinMode ∧ (storeSample i v s).wdArmed = s.wdArmed ∧
    (storeSample i v s).wdDeadline = s.wdDeadline ∧ (storeSample i v s).wakeArmed = s.wakeArmed ∧
    (storeSample i v s).wakeDeadline = s.wakeDeadline ∧ (storeSample i v s).arArmed = s.arArmed ∧
    (storeSample i v s).arDeadline = s.arDeadline ∧ (storeSample i v s).now = s.now ∧
    (storeSample i v s).humidity = s.humidity ∧ (storeSample i v s).temperature = s.temperature ∧
    (storeSample i v s).autoupdate = s.autoupdate ∧ (storeSample i v s).interval = s.interval ∧
    (storeSample i v s).debug = s.debug ∧ (storeSample i v s).nTrig = s.nTrig ∧
    (storeSample i v s).nFail = s.nFail ∧ (storeSample i v s).nCksumErr = s.nCksumErr ∧
    (storeSample i v s).lastCount = s.lastCount ∧ (storeSample i v s).stopped = s.stopped ∧
    (storeSample i v s).faulted = s.faulted := by
  simp [storeSample]

@[simp] theorem takeOperation_fields (rest : List PortOp) (t : Nat) (s : State) :
    (takeOperation rest t s).cfg = s.cfg ∧ (takeOperation rest t s).input = rest ∧
    (takeOperation rest t s).rdata = s.rdata ∧ (takeOperation rest t s).outcome = s.outcome ∧
    (takeOperation rest t s).phase = s.phase ∧ (takeOperation rest t s).cnt = s.cnt ∧
    (takeOperation rest t s).ref = s.ref ∧ (takeOperation rest t s).irq = s.irq ∧ (takeOperation rest t s).x = s.x ∧
    (takeOperation rest t s).decodePending = s.decodePending ∧ (takeOperation rest t s).pinMode = s.pinMode ∧
    (takeOperation rest t s).wdArmed = s.wdArmed ∧ (takeOperation rest t s).wdDeadline = s.wdDeadline ∧
    (takeOperation rest t s).wakeArmed = s.wakeArmed ∧ (takeOperation rest t s).wakeDeadline = s.wakeDeadline ∧
    (takeOperation rest t s).arArmed = s.arArmed ∧ (takeOperation rest t s).arDeadline = s.arDeadline ∧
    (takeOperation rest t s).now = t ∧ (takeOperation rest t s).humidity = s.humidity ∧
    (takeOperation rest t s).temperature = s.temperature ∧ (takeOperation rest t s).autoupdate = s.autoupdate ∧
    (takeOperation rest t s).interval = s.interval ∧ (takeOperation rest t s).debug = s.debug ∧
    (takeOperation rest t s).nTrig = s.nTrig ∧ (takeOperation rest t s).nFail = s.nFail ∧
    (takeOperation rest t s).nCksumErr = s.nCksumErr ∧ (takeOperation rest t s).lastCount = s.lastCount ∧
    (takeOperation rest t s).stopped = s.stopped ∧ (takeOperation rest t s).faulted = s.faulted := by
  simp [takeOperation]

@[simp] theorem countFalling_fields (s : State) :
    (countFalling s).cfg = s.cfg ∧ (countFalling s).input = s.input ∧ (countFalling s).rdata = s.rdata ∧
    (countFalling s).outcome = s.outcome ∧ (countFalling s).phase = s.phase ∧ (countFalling s).cnt = s.cnt + 1 ∧
    (countFalling s).ref = s.ref ∧ (countFalling s).irq = s.irq ∧ (countFalling s).x = s.x ∧
    (countFalling s).decodePending = s.decodePending ∧ (countFalling s).pinMode = s.pinMode ∧
    (countFalling s).wdArmed = s.wdArmed ∧ (countFalling s).wdDeadline = s.wdDeadline ∧
    (countFalling s).wakeArmed = s.wakeArmed ∧ (countFalling s).wakeDeadline = s.wakeDeadline ∧
    (countFalling s).arArmed = s.arArmed ∧ (countFalling s).arDeadline = s.arDeadline ∧
    (countFalling s).now = s.now ∧ (countFalling s).humidity = s.humidity ∧
    (countFalling s).temperature = s.temperature ∧ (countFalling s).autoupdate = s.autoupdate ∧
    (countFalling s).interval = s.interval ∧ (countFalling s).debug = s.debug ∧ (countFalling s).nTrig = s.nTrig ∧
    (countFalling s).nFail = s.nFail ∧ (countFalling s).nCksumErr = s.nCksumErr ∧
    (countFalling s).lastCount = s.lastCount ∧ (countFalling s).stopped = s.stopped ∧
    (countFalling s).faulted = s.faulted := by
  simp [countFalling]

@[simp] theorem touchReference_fields (s : State) :
    (touchReference s).cfg = s.cfg ∧ (touchReference s).input = s.input ∧ (touchReference s).rdata = s.rdata ∧
    (touchReference s).outcome = s.outcome ∧ (touchReference s).phase = s.phase ∧ (touchReference s).cnt = s.cnt ∧
    (touchReference s).ref = s.now ∧ (touchReference s).irq = s.irq + 1 ∧ (touchReference s).x = s.x ∧
    (touchReference s).decodePending = s.decodePending ∧ (touchReference s).pinMode = s.pinMode ∧
    (touchReference s).wdArmed = s.wdArmed ∧ (touchReference s).wdDeadline = s.wdDeadline ∧
    (touchReference s).wakeArmed = s.wakeArmed ∧ (touchReference s).wakeDeadline = s.wakeDeadline ∧
    (touchReference s).arArmed = s.arArmed ∧ (touchReference s).arDeadline = s.arDeadline ∧
    (touchReference s).now = s.now ∧ (touchReference s).humidity = s.humidity ∧
    (touchReference s).temperature = s.temperature ∧ (touchReference s).autoupdate = s.autoupdate ∧
    (touchReference s).interval = s.interval ∧ (touchReference s).debug = s.debug ∧
    (touchReference s).nTrig = s.nTrig ∧ (touchReference s).nFail = s.nFail ∧
    (touchReference s).nCksumErr = s.nCksumErr ∧ (touchReference s).lastCount = s.lastCount ∧
    (touchReference s).stopped = s.stopped ∧ (touchReference s).faulted = s.faulted := by
  simp [touchReference]

@[simp] theorem handOff_fields (s : State) :
    (handOff s).cfg = s.cfg ∧ (handOff s).input = s.input ∧ (handOff s).rdata = none ∧
    (handOff s).outcome = some .handoff ∧ (handOff s).phase = s.phase ∧ (handOff s).cnt = s.cnt ∧
    (handOff s).ref = s.ref ∧ (handOff s).irq = s.irq ∧ (handOff s).x = s.x ∧ (handOff s).decodePending = true ∧
    (handOff s).pinMode = s.pinMode ∧ (handOff s).wdArmed = s.wdArmed ∧ (handOff s).wdDeadline = s.wdDeadline ∧
    (handOff s).wakeArmed = s.wakeArmed ∧ (handOff s).wakeDeadline = s.wakeDeadline ∧
    (handOff s).arArmed = s.arArmed ∧ (handOff s).arDeadline = s.arDeadline ∧ (handOff s).now = s.now ∧
    (handOff s).humidity = s.humidity ∧ (handOff s).temperature = s.temperature ∧
    (handOff s).autoupdate = s.autoupdate ∧ (handOff s).interval = s.interval ∧ (handOff s).debug = s.debug ∧
    (handOff s).nTrig = s.nTrig ∧ (handOff s).nFail = s.nFail ∧ (handOff s).nCksumErr = s.nCksumErr ∧
    (handOff s).lastCount = s.lastCount ∧ (handOff s).stopped = s.stopped ∧ (handOff s).faulted = s.faulted := by
  simp [handOff, report]

@[simp] theorem acceptTrigger_fields (s : State) :
    (acceptTrigger s).cfg = s.cfg ∧ (acceptTrigger s).input = s.input ∧ (acceptTrigger s).rdata = none ∧
    (acceptTrigger s).outcome = some .triggered ∧ (acceptTrigger s).phase = .working ∧ (acceptTrigger s).cnt = 0 ∧
    (acceptTrigger s).ref = s.now ∧ (acceptTrigger s).irq = 0 ∧ (acceptTrigger s).x = s.x ∧
    (acceptTrigger s).decodePending = s.decodePending ∧ (acceptTrigger s).pinMode = .outLow ∧
    (acceptTrigger s).wdArmed = true ∧ (acceptTrigger s).wdDeadline = s.now + s.cfg.wdUs ∧
    (acceptTrigger s).wakeArmed = true ∧ (acceptTrigger s).wakeDeadline = s.now + s.cfg.tWakeUs ∧
    (acceptTrigger s).arArmed = s.arArmed ∧ (acceptTrigger s).arDeadline = s.arDeadline ∧
    (acceptTrigger s).now = s.now ∧ (acceptTrigger s).humidity = s.humidity ∧
    (acceptTrigger s).temperature = s.temperature ∧ (acceptTrigger s).autoupdate = s.autoupdate ∧
    (acceptTrigger s).interval = s.interval ∧ (acceptTrigger s).debug = s.debug ∧
    (acceptTrigger s).nTrig = s.nTrig + 1 ∧ (acceptTrigger s).nFail = s.nFail ∧
    (acceptTrigger s).nCksumErr = s.nCksumErr ∧ (acceptTrigger s).lastCount = s.lastCount ∧
    (acceptTrigger s).stopped = s.stopped ∧ (acceptTrigger s).faulted = s.faulted := by
  simp [acceptTrigger, report]

@[simp] theorem releaseWake_fields (s : State) :
    (releaseWake s).cfg = s.cfg ∧ (releaseWake s).input = s.input ∧ (releaseWake s).rdata = none ∧
    (releaseWake s).outcome = some .ok ∧ (releaseWake s).phase = s.phase ∧ (releaseWake s).cnt = s.cnt ∧
    (releaseWake s).ref = s.ref ∧ (releaseWake s).irq = s.irq ∧ (releaseWake s).x = s.x ∧
    (releaseWake s).decodePending = s.decodePending ∧ (releaseWake s).pinMode = .input ∧
    (releaseWake s).wdArmed = s.wdArmed ∧ (releaseWake s).wdDeadline = s.wdDeadline ∧
    (releaseWake s).wakeArmed = false ∧ (releaseWake s).wakeDeadline = s.wakeDeadline ∧
    (releaseWake s).arArmed = s.arArmed ∧ (releaseWake s).arDeadline = s.arDeadline ∧ (releaseWake s).now = s.now ∧
    (releaseWake s).humidity = s.humidity ∧ (releaseWake s).temperature = s.temperature ∧
    (releaseWake s).autoupdate = s.autoupdate ∧ (releaseWake s).interval = s.interval ∧
    (releaseWake s).debug = s.debug ∧ (releaseWake s).nTrig = s.nTrig ∧ (releaseWake s).nFail = s.nFail ∧
    (releaseWake s).nCksumErr = s.nCksumErr ∧ (releaseWake s).lastCount = s.lastCount ∧
    (releaseWake s).stopped = s.stopped ∧ (releaseWake s).faulted = s.faulted := by
  simp [releaseWake, report]

@[simp] theorem reschedule_fields (s : State) :
    (reschedule s).cfg = s.cfg ∧ (reschedule s).input = s.input ∧ (reschedule s).rdata = s.rdata ∧
    (reschedule s).outcome = s.outcome ∧ (reschedule s).phase = s.phase ∧ (reschedule s).cnt = s.cnt ∧
    (reschedule s).ref = s.ref ∧ (reschedule s).irq = s.irq ∧ (reschedule s).x = s.x ∧
    (reschedule s).decodePending = s.decodePending ∧ (reschedule s).pinMode = s.pinMode ∧
    (reschedule s).wdArmed = s.wdArmed ∧ (reschedule s).wdDeadline = s.wdDeadline ∧
    (reschedule s).wakeArmed = s.wakeArmed ∧ (reschedule s).wakeDeadline = s.wakeDeadline ∧
    (reschedule s).arArmed = s.arArmed ∧ (reschedule s).arDeadline = s.now + secondsUs s.interval.toNat ∧
    (reschedule s).now = s.now ∧ (reschedule s).humidity = s.humidity ∧ (reschedule s).temperature = s.temperature ∧
    (reschedule s).autoupdate = s.autoupdate ∧ (reschedule s).interval = s.interval ∧
    (reschedule s).debug = s.debug ∧ (reschedule s).nTrig = s.nTrig ∧ (reschedule s).nFail = s.nFail ∧
    (reschedule s).nCksumErr = s.nCksumErr ∧ (reschedule s).lastCount = s.lastCount ∧
    (reschedule s).stopped = s.stopped ∧ (reschedule s).faulted = s.faulted := by
  simp [reschedule]

@[simp] theorem dequeueDecode_fields (s : State) :
    (dequeueDecode s).cfg = s.cfg ∧ (dequeueDecode s).input = s.input ∧ (dequeueDecode s).rdata = s.rdata ∧
    (dequeueDecode s).outcome = s.outcome ∧ (dequeueDecode s).phase = s.phase ∧ (dequeueDecode s).cnt = s.cnt ∧
    (dequeueDecode s).ref = s.ref ∧ (dequeueDecode s).irq = s.irq ∧ (dequeueDecode s).x = s.x ∧
    (dequeueDecode s).decodePending = false ∧ (dequeueDecode s).pinMode = s.pinMode ∧
    (dequeueDecode s).wdArmed = s.wdArmed ∧ (dequeueDecode s).wdDeadline = s.wdDeadline ∧
    (dequeueDecode s).wakeArmed = s.wakeArmed ∧ (dequeueDecode s).wakeDeadline = s.wakeDeadline ∧
    (dequeueDecode s).arArmed = s.arArmed ∧ (dequeueDecode s).arDeadline = s.arDeadline ∧
    (dequeueDecode s).now = s.now ∧ (dequeueDecode s).humidity = s.humidity ∧
    (dequeueDecode s).temperature = s.temperature ∧ (dequeueDecode s).autoupdate = s.autoupdate ∧
    (dequeueDecode s).interval = s.interval ∧ (dequeueDecode s).debug = s.debug ∧
    (dequeueDecode s).nTrig = s.nTrig ∧ (dequeueDecode s).nFail = s.nFail ∧
    (dequeueDecode s).nCksumErr = s.nCksumErr ∧ (dequeueDecode s).lastCount = s.lastCount ∧
    (dequeueDecode s).stopped = s.stopped ∧ (dequeueDecode s).faulted = s.faulted := by
  simp [dequeueDecode]

@[simp] theorem finishDecode_fields (s : State) :
    (finishDecode s).cfg = s.cfg ∧ (finishDecode s).input = s.input ∧ (finishDecode s).rdata = s.rdata ∧
    (finishDecode s).outcome = s.outcome ∧ (finishDecode s).phase = .idle ∧ (finishDecode s).cnt = s.cnt ∧
    (finishDecode s).ref = s.ref ∧ (finishDecode s).irq = s.irq ∧ (finishDecode s).x = s.x ∧
    (finishDecode s).decodePending = s.decodePending ∧ (finishDecode s).pinMode = .outHigh ∧
    (finishDecode s).wdArmed = s.wdArmed ∧ (finishDecode s).wdDeadline = s.wdDeadline ∧
    (finishDecode s).wakeArmed = s.wakeArmed ∧ (finishDecode s).wakeDeadline = s.wakeDeadline ∧
    (finishDecode s).arArmed = s.arArmed ∧ (finishDecode s).arDeadline = s.arDeadline ∧
    (finishDecode s).now = s.now ∧ (finishDecode s).humidity = s.humidity ∧
    (finishDecode s).temperature = s.temperature ∧ (finishDecode s).autoupdate = s.autoupdate ∧
    (finishDecode s).interval = s.interval ∧ (finishDecode s).debug = s.debug ∧ (finishDecode s).nTrig = s.nTrig ∧
    (finishDecode s).nFail = s.nFail ∧ (finishDecode s).nCksumErr = s.nCksumErr ∧
    (finishDecode s).lastCount = s.lastCount ∧ (finishDecode s).stopped = s.stopped ∧
    (finishDecode s).faulted = s.faulted := by
  simp [finishDecode]

@[simp] theorem stopBlock_fields (s : State) :
    (stopBlock s).cfg = s.cfg ∧ (stopBlock s).input = s.input ∧ (stopBlock s).rdata = none ∧
    (stopBlock s).outcome = some .ok ∧ (stopBlock s).phase = s.phase ∧ (stopBlock s).cnt = s.cnt ∧
    (stopBlock s).ref = s.ref ∧ (stopBlock s).irq = s.irq ∧ (stopBlock s).x = s.x ∧
    (stopBlock s).decodePending = false ∧ (stopBlock s).pinMode = s.pinMode ∧ (stopBlock s).wdArmed = false ∧
    (stopBlock s).wdDeadline = s.wdDeadline ∧ (stopBlock s).wakeArmed = false ∧
    (stopBlock s).wakeDeadline = s.wakeDeadline ∧ (stopBlock s).arArmed = false ∧
    (stopBlock s).arDeadline = s.arDeadline ∧ (stopBlock s).now = s.now ∧ (stopBlock s).humidity = s.humidity ∧
    (stopBlock s).temperature = s.temperature ∧ (stopBlock s).autoupdate = s.autoupdate ∧
    (stopBlock s).interval = s.interval ∧ (stopBlock s).debug = s.debug ∧ (stopBlock s).nTrig = s.nTrig ∧
    (stopBlock s).nFail = s.nFail ∧ (stopBlock s).nCksumErr = s.nCksumErr ∧ (stopBlock s).lastCount = s.lastCount ∧
    (stopBlock s).stopped = true ∧ (stopBlock s).faulted = s.faulted := by
  simp [stopBlock, report]

@[simp] theorem closeWatchdog_fields (s : State) :
    (closeWatchdog s).cfg = s.cfg ∧ (closeWatchdog s).input = s.input ∧ (closeWatchdog s).rdata = s.rdata ∧
    (closeWatchdog s).outcome = s.outcome ∧ (closeWatchdog s).phase = s.phase ∧ (closeWatchdog s).cnt = s.cnt ∧
    (closeWatchdog s).ref = s.ref ∧ (closeWatchdog s).irq = s.irq ∧ (closeWatchdog s).x = s.x ∧
    (closeWatchdog s).decodePending = s.decodePending ∧ (closeWatchdog s).pinMode = s.pinMode ∧
    (closeWatchdog s).wdArmed = false ∧ (closeWatchdog s).wdDeadline = s.wdDeadline ∧
    (closeWatchdog s).wakeArmed = s.wakeArmed ∧ (closeWatchdog s).wakeDeadline = s.wakeDeadline ∧
    (closeWatchdog s).arArmed = s.arArmed ∧ (closeWatchdog s).arDeadline = s.arDeadline ∧
    (closeWatchdog s).now = s.now ∧ (closeWatchdog s).humidity = s.humidity ∧
    (closeWatchdog s).temperature = s.temperature ∧ (closeWatchdog s).autoupdate = s.autoupdate ∧
    (closeWatchdog s).interval = s.interval ∧ (closeWatchdog s).debug = s.debug ∧
    (closeWatchdog s).nTrig = s.nTrig ∧ (closeWatchdog s).nFail = s.nFail ∧
    (closeWatchdog s).nCksumErr = s.nCksumErr ∧ (closeWatchdog s).lastCount = s.irq ∧
    (closeWatchdog s).stopped = s.stopped ∧ (closeWatchdog s).faulted = s.faulted := by
  simp [closeWatchdog]

@[simp] theorem failSession_fields (s : State) :
    (failSession s).cfg = s.cfg ∧ (failSession s).input = s.input ∧ (failSession s).rdata = s.rdata ∧
    (failSession s).outcome = s.outcome ∧ (failSession s).phase = .idle ∧ (failSession s).cnt = s.cnt ∧
    (failSession s).ref = s.ref ∧ (failSession s).irq = s.irq ∧ (failSession s).x = s.x ∧
    (failSession s).decodePending = s.decodePending ∧ (failSession s).pinMode = s.pinMode ∧
    (failSession s).wdArmed = s.wdArmed ∧ (failSession s).wdDeadline = s.wdDeadline ∧
    (failSession s).wakeArmed = s.wakeArmed ∧ (failSession s).wakeDeadline = s.wakeDeadline ∧
    (failSession s).arArmed = s.arArmed ∧ (failSession s).arDeadline = s.arDeadline ∧ (failSession s).now = s.now ∧
    (failSession s).humidity = s.humidity ∧ (failSession s).temperature = s.temperature ∧
    (failSession s).autoupdate = s.autoupdate ∧ (failSession s).interval = s.interval ∧
    (failSession s).debug = s.debug ∧ (failSession s).nTrig = s.nTrig ∧ (failSession s).nFail = s.nFail + 1 ∧
    (failSession s).nCksumErr = s.nCksumErr ∧ (failSession s).lastCount = s.lastCount ∧
    (failSession s).stopped = s.stopped ∧ (failSession s).faulted = s.faulted := by
  simp [failSession]

@[simp] theorem commitReading_fields (f : Frame) (s : State) :
    (commitReading f s).cfg = s.cfg ∧ (commitReading f s).input = s.input ∧ (commitReading f s).rdata = s.rdata ∧
    (commitReading f s).outcome = s.outcome ∧ (commitReading f s).phase = s.phase ∧
    (commitReading f s).cnt = s.cnt ∧ (commitReading f s).ref = s.ref ∧ (commitReading f s).irq = s.irq ∧
    (commitReading f s).x = s.x ∧ (commitReading f s).decodePending = s.decodePending ∧
    (commitReading f s).pinMode = s.pinMode ∧ (commitReading f s).wdArmed = s.wdArmed ∧
    (commitReading f s).wdDeadline = s.wdDeadline ∧ (commitReading f s).wakeArmed = s.wakeArmed ∧
    (commitReading f s).wakeDeadline = s.wakeDeadline ∧ (commitReading f s).arArmed = s.arArmed ∧
    (commitReading f s).arDeadline = s.arDeadline ∧ (commitReading f s).now = s.now ∧
    (commitReading f s).humidity = f.humidity ∧ (commitReading f s).temperature = BitVec.ofInt 16 f.temperature ∧
    (commitReading f s).autoupdate = s.autoupdate ∧ (commitReading f s).interval = s.interval ∧
    (commitReading f s).debug = s.debug ∧ (commitReading f s).nTrig = s.nTrig ∧
    (commitReading f s).nFail = s.nFail ∧ (commitReading f s).nCksumErr = s.nCksumErr ∧
    (commitReading f s).lastCount = s.lastCount ∧ (commitReading f s).stopped = s.stopped ∧
    (commitReading f s).faulted = s.faulted := by
  simp [commitReading]

@[simp] theorem countCksumErr_fields (s : State) :
    (countCksumErr s).cfg = s.cfg ∧ (countCksumErr s).input = s.input ∧ (countCksumErr s).rdata = s.rdata ∧
    (countCksumErr s).outcome = s.outcome ∧ (countCksumErr s).phase = s.phase ∧ (countCksumErr s).cnt = s.cnt ∧
    (countCksumErr s).ref = s.ref ∧ (countCksumErr s).irq = s.irq ∧ (countCksumErr s).x = s.x ∧
    (countCksumErr s).decodePending = s.decodePending ∧ (countCksumErr s).pinMode = s.pinMode ∧
    (countCksumErr s).wdArmed = s.wdArmed ∧ (countCksumErr s).wdDeadline = s.wdDeadline ∧
    (countCksumErr s).wakeArmed = s.wakeArmed ∧ (countCksumErr s).wakeDeadline = s.wakeDeadline ∧
    (countCksumErr s).arArmed = s.arArmed ∧ (countCksumErr s).arDeadline = s.arDeadline ∧
    (countCksumErr s).now = s.now ∧ (countCksumErr s).humidity = s.humidity ∧
    (countCksumErr s).temperature = s.temperature ∧ (countCksumErr s).autoupdate = s.autoupdate ∧
    (countCksumErr s).interval = s.interval ∧ (countCksumErr s).debug = s.debug ∧
    (countCksumErr s).nTrig = s.nTrig ∧ (countCksumErr s).nFail = s.nFail ∧
    (countCksumErr s).nCksumErr = s.nCksumErr + 1 ∧ (countCksumErr s).lastCount = s.lastCount ∧
    (countCksumErr s).stopped = s.stopped ∧ (countCksumErr s).faulted = s.faulted := by
  simp [countCksumErr]

@[simp] theorem setAutoupdate_fields (b : Bool) (s : State) :
    (setAutoupdate b s).cfg = s.cfg ∧ (setAutoupdate b s).input = s.input ∧ (setAutoupdate b s).rdata = s.rdata ∧
    (setAutoupdate b s).outcome = s.outcome ∧ (setAutoupdate b s).phase = s.phase ∧
    (setAutoupdate b s).cnt = s.cnt ∧ (setAutoupdate b s).ref = s.ref ∧ (setAutoupdate b s).irq = s.irq ∧
    (setAutoupdate b s).x = s.x ∧ (setAutoupdate b s).decodePending = s.decodePending ∧
    (setAutoupdate b s).pinMode = s.pinMode ∧ (setAutoupdate b s).wdArmed = s.wdArmed ∧
    (setAutoupdate b s).wdDeadline = s.wdDeadline ∧ (setAutoupdate b s).wakeArmed = s.wakeArmed ∧
    (setAutoupdate b s).wakeDeadline = s.wakeDeadline ∧ (setAutoupdate b s).arArmed = s.arArmed ∧
    (setAutoupdate b s).arDeadline = s.arDeadline ∧ (setAutoupdate b s).now = s.now ∧
    (setAutoupdate b s).humidity = s.humidity ∧ (setAutoupdate b s).temperature = s.temperature ∧
    (setAutoupdate b s).autoupdate = b ∧ (setAutoupdate b s).interval = s.interval ∧
    (setAutoupdate b s).debug = s.debug ∧ (setAutoupdate b s).nTrig = s.nTrig ∧
    (setAutoupdate b s).nFail = s.nFail ∧ (setAutoupdate b s).nCksumErr = s.nCksumErr ∧
    (setAutoupdate b s).lastCount = s.lastCount ∧ (setAutoupdate b s).stopped = s.stopped ∧
    (setAutoupdate b s).faulted = s.faulted := by
  simp [setAutoupdate]

@[simp] theorem setInterval_fields (n : Half) (s : State) :
    (setInterval n s).cfg = s.cfg ∧ (setInterval n s).input = s.input ∧ (setInterval n s).rdata = s.rdata ∧
    (setInterval n s).outcome = s.outcome ∧ (setInterval n s).phase = s.phase ∧ (setInterval n s).cnt = s.cnt ∧
    (setInterval n s).ref = s.ref ∧ (setInterval n s).irq = s.irq ∧ (setInterval n s).x = s.x ∧
    (setInterval n s).decodePending = s.decodePending ∧ (setInterval n s).pinMode = s.pinMode ∧
    (setInterval n s).wdArmed = s.wdArmed ∧ (setInterval n s).wdDeadline = s.wdDeadline ∧
    (setInterval n s).wakeArmed = s.wakeArmed ∧ (setInterval n s).wakeDeadline = s.wakeDeadline ∧
    (setInterval n s).arArmed = s.arArmed ∧ (setInterval n s).arDeadline = s.arDeadline ∧
    (setInterval n s).now = s.now ∧ (setInterval n s).humidity = s.humidity ∧
    (setInterval n s).temperature = s.temperature ∧ (setInterval n s).autoupdate = s.autoupdate ∧
    (setInterval n s).interval = n ∧ (setInterval n s).debug = s.debug ∧ (setInterval n s).nTrig = s.nTrig ∧
    (setInterval n s).nFail = s.nFail ∧ (setInterval n s).nCksumErr = s.nCksumErr ∧
    (setInterval n s).lastCount = s.lastCount ∧ (setInterval n s).stopped = s.stopped ∧
    (setInterval n s).faulted = s.faulted := by
  simp [setInterval]

@[simp] theorem setDebug_fields (b : Bool) (s : State) :
    (setDebug b s).cfg = s.cfg ∧ (setDebug b s).input = s.input ∧ (setDebug b s).rdata = s.rdata ∧
    (setDebug b s).outcome = s.outcome ∧ (setDebug b s).phase = s.phase ∧ (setDebug b s).cnt = s.cnt ∧
    (setDebug b s).ref = s.ref ∧ (setDebug b s).irq = s.irq ∧ (setDebug b s).x = s.x ∧
    (setDebug b s).decodePending = s.decodePending ∧ (setDebug b s).pinMode = s.pinMode ∧
    (setDebug b s).wdArmed = s.wdArmed ∧ (setDebug b s).wdDeadline = s.wdDeadline ∧
    (setDebug b s).wakeArmed = s.wakeArmed ∧ (setDebug b s).wakeDeadline = s.wakeDeadline ∧
    (setDebug b s).arArmed = s.arArmed ∧ (setDebug b s).arDeadline = s.arDeadline ∧ (setDebug b s).now = s.now ∧
    (setDebug b s).humidity = s.humidity ∧ (setDebug b s).temperature = s.temperature ∧
    (setDebug b s).autoupdate = s.autoupdate ∧ (setDebug b s).interval = s.interval ∧ (setDebug b s).debug = b ∧
    (setDebug b s).nTrig = s.nTrig ∧ (setDebug b s).nFail = s.nFail ∧ (setDebug b s).nCksumErr = s.nCksumErr ∧
    (setDebug b s).lastCount = s.lastCount ∧ (setDebug b s).stopped = s.stopped ∧ (setDebug b s).faulted = s.faulted := by
  simp [setDebug]

end Sys2Proof.Machine
end

