-- ==== Sys2Proof/Laws/Ops.lean ====
section
/-! SUPPORT. What each shared operation can do, said once. -/

namespace Sys2Proof.Machine

/-! ### Sample Buffer -/

/-- Read after write in the Sample Buffer: the written element holds the value, every other one is as before. -/
theorem storeSample_get (i : Nat) (v : Word) (s : State) (j : Nat) (h : j < nBits) :
    (storeSample i v s).x[j] = if i = j then some v else s.x[j] := by
  simp [storeSample, Vector.getElem_setIfInBounds]

theorem sampleAt_of_lt (x : Vector (Option Word) nBits) (i : Nat) (h : i < nBits) : sampleAt x i = x[i] := by
  simp [sampleAt, h]

theorem bitAt_of_some (x : Vector (Option Word) nBits) (i : Nat) (h : i < nBits) (d : Word) (hx : x[i] = some d) :
    bitAt x i = decide (threshUs < d.toNat) := by
  simp [bitAt, sampleAt_of_lt x i h, hx, bitOfSample]

/-- No element from `i` on is unwritten exactly when all hold a value. -/
theorem firstUnwritten_eq_none (i : Nat) (l : List (Option Word)) :
    firstUnwritten i l = none ↔ ∀ o ∈ l, ∃ d, o = some d := by
  induction l generalizing i with
  | nil => simp [firstUnwritten]
  | cons o rest ih => cases o <;> simp [firstUnwritten, ih]

/-- The element found is the lowest one that holds no value. -/
theorem firstUnwritten_eq_some (i k : Nat) (l : List (Option Word)) :
    firstUnwritten i l = some k ↔
      i ≤ k ∧ l[k - i]? = some none ∧ ∀ j < k - i, ∃ d, l[j]? = some (some d) := by
  induction l generalizing i with
  | nil => simp [firstUnwritten]
  | cons o rest ih =>
    cases o with
    | none =>
      simp only [firstUnwritten, Option.some.injEq]
      constructor
      · rintro rfl; simp
      · rintro ⟨hle, -, hall⟩
        by_contra hne
        obtain ⟨d, hd⟩ := hall 0 (by omega)
        simp at hd
    | some d =>
      simp only [firstUnwritten, ih]
      constructor
      · rintro ⟨hle, hk, hall⟩
        have e : k - i = (k - (i + 1)) + 1 := by omega
        refine ⟨by omega, by rw [e]; simpa using hk, fun j hj => ?_⟩
        cases j with
        | zero => exact ⟨d, rfl⟩
        | succ j => simpa using hall j (by omega)
      · rintro ⟨hle, hk, hall⟩
        have hlt : i < k := by
          by_contra hge
          have : k - i = 0 := by omega
          simp [this] at hk
        have e : k - i = (k - (i + 1)) + 1 := by omega
        refine ⟨by omega, by rw [e] at hk; simpa using hk, fun j hj => ?_⟩
        simpa using hall (j + 1) (by omega)

/-- The buffer is written exactly when DECODE's loop finds no unwritten element. -/
theorem bufferWritten_iff (x : Vector (Option Word) nBits) :
    (∀ i (h : i < nBits), ∃ d, x[i] = some d) ↔ firstUnwritten 0 x.toList = none := by
  rw [firstUnwritten_eq_none]
  constructor
  · intro hw o ho
    obtain ⟨i, hi, rfl⟩ := List.getElem_of_mem ho
    simpa using hw i (by simpa using hi)
  · intro hw i hi
    exact hw _ (by simp)

/-- The index of an in-window edge is inside the buffer, and it alone is written. -/
theorem storeInterval_get (s : State) (i : Nat) (h : i < nBits) :
    (storeInterval s).x[i] = if i = s.cnt.toNat - s.cfg.preamble then some (elapsed s) else s.x[i] := by
  unfold storeInterval
  rw [storeSample_get]
  simp [eq_comm]

/-- The stored duration is the interval modulo 2^32. -/
theorem elapsed_toNat (s : State) : ((elapsed s).toNat : Int) = ((s.now : Int) - (s.ref : Int)) % 2 ^ 32 := by
  unfold elapsed trunc32
  rw [BitVec.toNat_ofInt, Int.toNat_of_nonneg (Int.emod_nonneg _ (by decide))]
  rfl

/-! ### Frames -/

theorem Frame.humidity_toNat (f : Frame) : f.humidity.toNat = 256 * f.b0.toNat + f.b1.toNat := by
  unfold Frame.humidity
  have := f.b1.isLt
  rw [BitVec.toNat_append, ← Nat.shiftLeft_add_eq_or_of_lt this, Nat.shiftLeft_eq]
  omega

theorem Frame.magnitude_toNat (f : Frame) : f.magnitude.toNat = 256 * (f.b2.toNat % 128) + f.b3.toNat := by
  unfold Frame.magnitude
  have := f.b3.isLt
  rw [BitVec.toNat_append, ← Nat.shiftLeft_add_eq_or_of_lt this, Nat.shiftLeft_eq, BitVec.extractLsb'_toNat]
  simp
  omega

theorem Frame.sign_eq (f : Frame) : f.sign = decide (128 ≤ f.b2.toNat) := by
  unfold Frame.sign
  have := f.b2.isLt
  rw [BitVec.getLsbD, Nat.testBit_eq_decide_div_mod_eq]
  congr 1
  simp
  omega

/-- The temperature register holds the decoded value exactly. -/
theorem Frame.temperature_toInt (f : Frame) : (BitVec.ofInt 16 f.temperature).toInt = f.temperature := by
  rw [BitVec.toInt_ofInt]
  have := f.magnitude.isLt
  simp only [Frame.temperature]
  apply Int.bmod_eq_of_le <;> split <;> omega

theorem Frame.temperature_range (f : Frame) : -32767 ≤ f.temperature ∧ f.temperature ≤ 32767 := by
  have := f.magnitude.isLt
  simp only [Frame.temperature]
  split <;> omega

/-! ### Enabling conditions and ranges -/

theorem wakeReady_iff (s : State) : s.wakeReady = true ↔ s.wakeArmed = true ∧ s.wakeDeadline ≤ s.now := by
  simp [State.wakeReady]

theorem wdReady_iff (s : State) : s.wdReady = true ↔ s.wdArmed = true ∧ s.wdDeadline ≤ s.now := by
  simp [State.wdReady]

theorem arReady_iff (s : State) : s.arReady = true ↔ s.arArmed = true ∧ s.arDeadline ≤ s.now := by
  simp [State.arReady]

theorem intervalInRange_iff (n : Word) : intervalInRange n = true ↔ 3 ≤ n.toNat ∧ n.toNat ≤ 60000 := by
  simp [intervalInRange]

theorem wellFormedParams_iff (p : Params) :
    p.wellFormed = true ↔
      p.preamble + 40 ≤ 4294967296 ∧ 0 < p.wdUs ∧ 1000 ≤ p.tWakeUs ∧
        3 ≤ p.intervalReset ∧ p.intervalReset ≤ 60000 := by
  simp [Params.wellFormed, nBits, cntW, intervalMin, intervalMax, and_assoc]

theorem intervalOfValue_toNat (n : Word) (h : n.toNat ≤ 60000) : (intervalOfValue n).toNat = n.toNat := by
  simp only [intervalOfValue, BitVec.toNat_ofNat]
  omega

theorem nonEmptyWrite_iff (n : Word) : nonEmptyWrite n = true ↔ n ≠ 0 := by
  simp [nonEmptyWrite]

theorem inWindow_iff (s : State) :
    inWindow s = true ↔ s.cfg.preamble ≤ s.cnt.toNat ∧ s.cnt.toNat < s.cfg.preamble + 40 := by
  simp [inWindow]

theorem atFinalIndex_iff (s : State) : atFinalIndex s = true ↔ s.cnt.toNat = s.cfg.preamble + 39 := by
  simp [atFinalIndex]

/-! ### Shared operations by cases -/

/-- RequestTrigger either reports BUSY and writes nothing, or accepts. -/
theorem requestTrigger_cases (s : State) :
    (s.phase = .working ∧ requestTrigger s = report .busy s) ∨
      (s.phase = .idle ∧ requestTrigger s = acceptTrigger s) := by
  cases h : s.phase <;> simp [requestTrigger, h]

/-- A write to TRIGGER is empty, dropped or accepted. -/
theorem writeTrigger_cases (n : Word) (s : State) :
    (n = 0 ∧ writeTrigger n s = report .noop s) ∨
      (n ≠ 0 ∧ s.phase = .working ∧ writeTrigger n s = report .busy s) ∨
      (n ≠ 0 ∧ s.phase = .idle ∧ writeTrigger n s = acceptTrigger s) := by
  by_cases h : n = 0
  · simp [writeTrigger, nonEmptyWrite, h]
  · have := requestTrigger_cases s
    simp_all [writeTrigger, nonEmptyWrite]

/-- The trigger of a refresh tick: suppressed, dropped or accepted. -/
theorem refreshTrigger_cases (s : State) :
    (s.autoupdate = false ∧ refreshTrigger s = report .ok s) ∨
      (s.autoupdate = true ∧ s.phase = .working ∧ refreshTrigger s = report .busy s) ∨
      (s.autoupdate = true ∧ s.phase = .idle ∧ refreshTrigger s = acceptTrigger s) := by
  cases h : s.autoupdate
  · simp [refreshTrigger, h]
  · have := requestTrigger_cases s
    simp_all [refreshTrigger]

/-- A falling edge stores nothing outside the window, stores inside it, and hands off at the final index. -/
theorem recordFalling_cases (s : State) :
    (¬(s.cfg.preamble ≤ s.cnt.toNat ∧ s.cnt.toNat < s.cfg.preamble + 40) ∧ recordFalling s = report .ok s) ∨
      ((s.cfg.preamble ≤ s.cnt.toNat ∧ s.cnt.toNat < s.cfg.preamble + 39) ∧
        recordFalling s = report .ok (storeInterval s)) ∨
      (s.cnt.toNat = s.cfg.preamble + 39 ∧ recordFalling s = handOff (storeInterval s)) := by
  by_cases h : inWindow s = true
  · have hw := (inWindow_iff s).1 h
    by_cases h2 : atFinalIndex s = true
    · exact .inr (.inr ⟨(atFinalIndex_iff s).1 h2, by simp [recordFalling, h, h2]⟩)
    · have hf := mt (atFinalIndex_iff s).2 h2
      exact .inr (.inl ⟨⟨hw.1, by omega⟩, by simp [recordFalling, h, h2]⟩)
  · exact .inl ⟨mt (inWindow_iff s).2 h, by simp [recordFalling, h]⟩

/-- A frame is committed on a valid checksum and counted otherwise. -/
theorem commitFrame_cases (f : Frame) (s : State) :
    (f.valid = true ∧ commitFrame f s = report .cksumOk (commitReading f s)) ∨
      (f.valid = false ∧ commitFrame f s = report .cksumErr (countCksumErr s)) := by
  cases h : f.valid <;> simp [commitFrame, h]

/-- The watchdog's expiry by session state. -/
theorem expireWatchdog_cases (s : State) :
    (s.phase = .working ∧ expireWatchdog s = report .timeout (failSession (closeWatchdog s))) ∨
      (s.phase = .idle ∧ expireWatchdog s = report .wdIdle (closeWatchdog s)) := by
  cases h : s.phase <;> simp [expireWatchdog, h]

/-- A write to INTERVAL is kept in range and ignored out of it. -/
theorem writeInterval_cases (n : Word) (s : State) :
    ((3 ≤ n.toNat ∧ n.toNat ≤ 60000) ∧ writeInterval n s = report .ok (setInterval (intervalOfValue n) s)) ∨
      (¬(3 ≤ n.toNat ∧ n.toNat ≤ 60000) ∧ writeInterval n s = report .ignored s) := by
  by_cases h : intervalInRange n = true
  · exact .inl ⟨(intervalInRange_iff n).1 h, by simp [writeInterval, h]⟩
  · exact .inr ⟨mt (intervalInRange_iff n).2 h, by simp [writeInterval, h]⟩

theorem Frame.valid_iff (f : Frame) :
    f.valid = true ↔ f.b4.toNat = (f.b0.toNat + f.b1.toNat + f.b2.toNat + f.b3.toNat) % 256 := by
  simp [Frame.valid, Frame.sum, BitVec.toNat_eq]

end Sys2Proof.Machine
end

