-- ==== Sys2Proof/Laws/PerInstr.lean ====
section
/-! SUPPORT. Statements made of every operation, one lemma per constructor. -/

namespace Sys2Proof.Laws

namespace OperandAdmitted

/-- The operation's operand is one its format admits, and its opcode is no forbidden register access of R59. -/
def Statement (i : Instr) : Prop :=
  i.wellFormed = true ∧ i.opcode ∉ ([0x10, 0x13, 0x14, 0x17, 0x25, 0x26] : List Byte)

theorem edge (level : Level) : Statement (.edge level) := by cases level <;> exact ⟨rfl, by decide⟩
theorem wakeRelease : Statement .wakeRelease := ⟨rfl, by decide⟩
theorem wdExpire : Statement .wdExpire := ⟨rfl, by decide⟩
theorem refreshTick : Statement .refreshTick := ⟨rfl, by decide⟩
theorem decode : Statement .decode := ⟨rfl, by decide⟩
theorem wrAutoupdate (v : Word) : Statement (.wrAutoupdate v) := ⟨rfl, by simp [Instr.opcode]⟩
theorem wrInterval (n : Word) : Statement (.wrInterval n) := ⟨rfl, by simp [Instr.opcode]⟩
theorem wrTrigger (n : Word) : Statement (.wrTrigger n) := ⟨rfl, by simp [Instr.opcode]⟩
theorem wrDebug (v : Word) : Statement (.wrDebug v) := ⟨rfl, by simp [Instr.opcode]⟩
theorem rdGpioPin : Statement .rdGpioPin := ⟨rfl, by decide⟩
theorem rdAutoupdate : Statement .rdAutoupdate := ⟨rfl, by decide⟩
theorem rdInterval : Statement .rdInterval := ⟨rfl, by decide⟩
theorem rdHumidity : Statement .rdHumidity := ⟨rfl, by decide⟩
theorem rdTemperature : Statement .rdTemperature := ⟨rfl, by decide⟩
theorem rdData : Statement .rdData := ⟨rfl, by decide⟩
theorem shutdown : Statement .shutdown := ⟨rfl, by decide⟩

end OperandAdmitted

end Sys2Proof.Laws
end

