-- ==== Sys2Proof/Laws/Step.lean ====
section
/-! SUPPORT. What each meaning and one step can do, said once: if it answers a next state, then which. -/

namespace Sys2Proof.Machine

theorem execEdge_next (l : Level) (s t : State) :
    execEdge l s = .next t ↔
      (l = .low ∧ t = touchReference (countFalling (recordFalling s))) ∨
        (l = .high ∧ t = touchReference (report .ok s)) := by
  cases l <;> simp [execEdge, eq_comm]

theorem execWakeRelease_next (s t : State) :
    execWakeRelease s = .next t ↔ (s.wakeArmed = true ∧ s.wakeDeadline ≤ s.now) ∧ t = releaseWake s := by
  rw [← wakeReady_iff]
  by_cases h : s.wakeReady = true <;> simp [execWakeRelease, h, eq_comm]

theorem execWdExpire_next (s t : State) :
    execWdExpire s = .next t ↔ (s.wdArmed = true ∧ s.wdDeadline ≤ s.now) ∧ t = expireWatchdog s := by
  rw [← wdReady_iff]
  by_cases h : s.wdReady = true <;> simp [execWdExpire, h, eq_comm]

theorem execRefreshTick_next (s t : State) :
    execRefreshTick s = .next t ↔
      (s.arArmed = true ∧ s.arDeadline ≤ s.now) ∧ t = reschedule (refreshTrigger s) := by
  rw [← arReady_iff]
  by_cases h : s.arReady = true <;> simp [execRefreshTick, h, eq_comm]

/-- DECODE runs only when queued; it faults at the lowest unwritten element, or commits and finishes. -/
theorem execDecode_next (s t : State) :
    execDecode s = .next t ↔
      s.decodePending = true ∧
        ((∃ k, firstUnwritten 0 s.x.toList = some k ∧ t = takeFault (.unwrittenSample k) s) ∨
          (firstUnwritten 0 s.x.toList = none ∧
            t = finishDecode (commitFrame (frameOf s.x) (dequeueDecode s)))) := by
  cases hp : s.decodePending
  · simp [execDecode, hp]
  · cases hf : firstUnwritten 0 s.x.toList <;> simp [execDecode, hp, hf, eq_comm]

/-- Everything an operation can do: each way of answering a next state, with the condition under which it does so. -/
inductive Effect (s : State) : Instr → State → Prop where
  | rising : Effect s (.edge .high) (touchReference (report .ok s))
  | fallingOutside : ¬(s.cfg.preamble ≤ s.cnt.toNat ∧ s.cnt.toNat < s.cfg.preamble + 40) →
      Effect s (.edge .low) (touchReference (countFalling (report .ok s)))
  | fallingInside : s.cfg.preamble ≤ s.cnt.toNat → s.cnt.toNat < s.cfg.preamble + 39 →
      Effect s (.edge .low) (touchReference (countFalling (report .ok (storeInterval s))))
  | fallingFinal : s.cnt.toNat = s.cfg.preamble + 39 →
      Effect s (.edge .low) (touchReference (countFalling (handOff (storeInterval s))))
  | released : s.wakeArmed = true → s.wakeDeadline ≤ s.now → Effect s .wakeRelease (releaseWake s)
  | timedOut : s.wdArmed = true → s.wdDeadline ≤ s.now → s.phase = .working →
      Effect s .wdExpire (report .timeout (failSession (closeWatchdog s)))
  | expiredIdle : s.wdArmed = true → s.wdDeadline ≤ s.now → s.phase = .idle →
      Effect s .wdExpire (report .wdIdle (closeWatchdog s))
  | tickOff : s.arArmed = true → s.arDeadline ≤ s.now → s.autoupdate = false →
      Effect s .refreshTick (reschedule (report .ok s))
  | tickBusy : s.arArmed = true → s.arDeadline ≤ s.now → s.autoupdate = true → s.phase = .working →
      Effect s .refreshTick (reschedule (report .busy s))
  | tickAccepted : s.arArmed = true → s.arDeadline ≤ s.now → s.autoupdate = true → s.phase = .idle →
      Effect s .refreshTick (reschedule (acceptTrigger s))
  | decodeFaulted (k : Nat) : s.decodePending = true → firstUnwritten 0 s.x.toList = some k →
      Effect s .decode (takeFault (.unwrittenSample k) s)
  | committed : s.decodePending = true → firstUnwritten 0 s.x.toList = none → (frameOf s.x).valid = true →
      Effect s .decode (finishDecode (report .cksumOk (commitReading (frameOf s.x) (dequeueDecode s))))
  | discarded : s.decodePending = true → firstUnwritten 0 s.x.toList = none → (frameOf s.x).valid = false →
      Effect s .decode (finishDecode (report .cksumErr (countCksumErr (dequeueDecode s))))
  | autoupdateSet (v : Word) : Effect s (.wrAutoupdate v) (report .ok (setAutoupdate (boolOfValue v) s))
  | intervalSet (n : Word) : 3 ≤ n.toNat → n.toNat ≤ 60000 →
      Effect s (.wrInterval n) (report .ok (setInterval (intervalOfValue n) s))
  | intervalIgnored (n : Word) : ¬(3 ≤ n.toNat ∧ n.toNat ≤ 60000) → Effect s (.wrInterval n) (report .ignored s)
  | triggerEmpty : Effect s (.wrTrigger 0) (report .noop s)
  | triggerBusy (n : Word) : n ≠ 0 → s.phase = .working → Effect s (.wrTrigger n) (report .busy s)
  | triggerAccepted (n : Word) : n ≠ 0 → s.phase = .idle → Effect s (.wrTrigger n) (acceptTrigger s)
  | debugSet (v : Word) : Effect s (.wrDebug v) (report .ok (setDebug (boolOfValue v) s))
  | gpioPinRead : Effect s .rdGpioPin (reportRead (memRead .gpioPin s) s)
  | autoupdateRead : Effect s .rdAutoupdate (reportRead (memRead .autoupdate s) s)
  | intervalRead : Effect s .rdInterval (reportRead (memRead .interval s) s)
  | humidityRead : Effect s .rdHumidity (reportRead (memRead .humidity s) s)
  | temperatureRead : Effect s .rdTemperature (reportRead (memRead .temperature s) s)
  | dataRead : Effect s .rdData (reportRead (memRead .data s) s)
  | stopped : Effect s .shutdown (stopBlock s)

/-- The inversion lemma of `exec`: what answers a next state is one of the effects. -/
theorem exec_next_effect {i : Instr} {s t : State} (h : exec i s = .next t) : Effect s i t := by
  cases i <;> simp only [exec] at h
  case edge l =>
    rcases (execEdge_next l s t).1 h with ⟨rfl, rfl⟩ | ⟨rfl, rfl⟩
    · rcases recordFalling_cases s with ⟨h1, e⟩ | ⟨h1, e⟩ | ⟨h1, e⟩ <;> rw [e]
      · exact .fallingOutside h1
      · exact .fallingInside h1.1 h1.2
      · exact .fallingFinal h1
    · exact .rising
  case wakeRelease =>
    obtain ⟨h1, rfl⟩ := (execWakeRelease_next s t).1 h
    exact .released h1.1 h1.2
  case wdExpire =>
    obtain ⟨h1, rfl⟩ := (execWdExpire_next s t).1 h
    rcases expireWatchdog_cases s with ⟨h2, e⟩ | ⟨h2, e⟩ <;> rw [e]
    · exact .timedOut h1.1 h1.2 h2
    · exact .expiredIdle h1.1 h1.2 h2
  case refreshTick =>
    obtain ⟨h1, rfl⟩ := (execRefreshTick_next s t).1 h
    rcases refreshTrigger_cases s with ⟨h2, e⟩ | ⟨h2, h3, e⟩ | ⟨h2, h3, e⟩ <;> rw [e]
    · exact .tickOff h1.1 h1.2 h2
    · exact .tickBusy h1.1 h1.2 h2 h3
    · exact .tickAccepted h1.1 h1.2 h2 h3
  case decode =>
    obtain ⟨h1, ⟨k, h2, rfl⟩ | ⟨h2, rfl⟩⟩ := (execDecode_next s t).1 h
    · exact .decodeFaulted k h1 h2
    · rcases commitFrame_cases (frameOf s.x) (dequeueDecode s) with ⟨h3, e⟩ | ⟨h3, e⟩ <;> rw [e]
      · exact .committed h1 h2 h3
      · exact .discarded h1 h2 h3
  case wrAutoupdate v => cases h; exact .autoupdateSet v
  case wrInterval n =>
    cases h
    rcases writeInterval_cases n s with ⟨h1, e⟩ | ⟨h1, e⟩ <;> rw [e]
    · exact .intervalSet n h1.1 h1.2
    · exact .intervalIgnored n h1
  case wrTrigger n =>
    cases h
    rcases writeTrigger_cases n s with ⟨rfl, e⟩ | ⟨h1, h2, e⟩ | ⟨h1, h2, e⟩ <;> rw [e]
    · exact .triggerEmpty
    · exact .triggerBusy n h1 h2
    · exact .triggerAccepted n h1 h2
  case wrDebug v => cases h; exact .debugSet v
  case rdGpioPin => cases h; exact .gpioPinRead
  case rdAutoupdate => cases h; exact .autoupdateRead
  case rdInterval => cases h; exact .intervalRead
  case rdHumidity => cases h; exact .humidityRead
  case rdTemperature => cases h; exact .temperatureRead
  case rdData => cases h; exact .dataRead
  case shutdown => cases h; exact .stopped

/-- The dispatch checks pass exactly for a presented word that decodes, in an unstopped block, at a time not before
`now`. -/
theorem admissionOf_run_iff (s u : State) (i : Instr) :
    admissionOf s = .run i u ↔
      ∃ p rest, s.input = p :: rest ∧ s.stopped = false ∧ decodeWord p.op = .ok i ∧ s.now ≤ p.t.toNat ∧
        u = takeOperation rest p.t.toNat s := by
  cases hin : s.input with
  | nil => simp [admissionOf, hin]
  | cons p rest =>
    simp only [admissionOf, hin, admitOp]
    cases hst : s.stopped
    · cases hd : decodeWord p.op with
      | error e => simp [hd]
      | ok j =>
        by_cases ht : p.t.toNat < s.now
        · simp [hd, ht]
        · simp only [ht, if_false]
          constructor
          · intro h
            simp at h
            exact ⟨p, rest, rfl, trivial, by rw [hd, h.1], by omega, h.2.symm⟩
          · rintro ⟨p', rest', he, -, hd', -, hu⟩
            simp at he
            obtain ⟨rfl, rfl⟩ := he
            rw [hd] at hd'
            simp at hd'
            simp [hd', hu]
    · simp

/-- A step with a next state is an admitted operation's meaning. -/
theorem step_next_cases (s t : State) (h : step s = .next t) :
    ∃ p rest i, s.input = p :: rest ∧ s.stopped = false ∧ decodeWord p.op = .ok i ∧ s.now ≤ p.t.toNat ∧
      exec i (takeOperation rest p.t.toNat s) = .next t := by
  unfold step at h
  split at h
  · rename_i i u ha
    obtain ⟨p, rest, h1, h2, h3, h4, rfl⟩ := (admissionOf_run_iff s u i).1 ha
    exact ⟨p, rest, i, h1, h2, h3, h4, h⟩
  · simp at h

end Sys2Proof.Machine
end

