-- ==== Sys2Proof/Tests/Slice0.lean ====
section
/-! SUPPORT. The model's own tests: ill-formed terms that the checks refuse, words written out from R76, one step per
vector of spec/95_test_vectors.md, and for every statement with hypotheses a state and operands that meet them. -/

namespace Sys2Proof.Tests

open Sys2Proof.Machine

/-! ### Well-formedness (R73, R10, R11, R12, R15) -/

theorem test_formatN_refuses_a_set_bit : Format.none.admits 1 = false ∧ Format.none.admits 0x80000000 = false := by decide
theorem test_formatL_refuses_bit_1 : Format.level.admits 2 = false ∧ Format.level.admits 0x80000000 = false := by decide
theorem test_formatL_admits_both_levels : Format.level.admits 0 = true ∧ Format.level.admits 1 = true := by decide
theorem test_formatV_admits_every_bit : Format.value.admits 0xFFFFFFFF = true := by decide
theorem test_reference_parameters_wellFormed : Params.reference.wellFormed = true := by decide
theorem test_window_beyond_the_counter_refused :
    (Params.mk (2 ^ 32 - 39) 1000000 1000 4 false 10).wellFormed = false := by decide
theorem test_window_up_to_the_counter_admitted :
    (Params.mk (2 ^ 32 - 40) 1000000 1000 4 false 10).wellFormed = true := by decide
theorem test_zero_watchdog_refused : (Params.mk 3 0 1000 4 false 10).wellFormed = false := by decide
theorem test_short_wake_hold_refused : (Params.mk 3 1000000 999 4 false 10).wellFormed = false := by decide
theorem test_interval_below_range_refused : (Params.mk 3 1000000 1000 4 false 2).wellFormed = false := by decide
theorem test_interval_above_range_refused : (Params.mk 3 1000000 1000 4 false 60001).wellFormed = false := by decide

/-! ### Decoding: the patterns of R76 bit by bit, and the reserved words of spec/95_test_vectors.md section 2.1 -/

theorem test_decode_edge_low : decodeWord 0b0000000100000000000000000000000000000000 = .ok (.edge .low) := by decide
theorem test_decode_edge_high : decodeWord 0b0000000100000000000000000000000000000001 = .ok (.edge .high) := by decide
theorem test_decode_wakeRelease : decodeWord 0b0000001000000000000000000000000000000000 = .ok .wakeRelease := by decide
theorem test_decode_wdExpire : decodeWord 0b0000001100000000000000000000000000000000 = .ok .wdExpire := by decide
theorem test_decode_refreshTick : decodeWord 0b0000010000000000000000000000000000000000 = .ok .refreshTick := by decide
theorem test_decode_decode : decodeWord 0b0000010100000000000000000000000000000000 = .ok .decode := by decide
theorem test_decode_wrAutoupdate :
    decodeWord 0b0001000110000000000000000000000000000101 = .ok (.wrAutoupdate 0x80000005) := by decide
theorem test_decode_wrInterval :
    decodeWord 0b0001001000000000000000001110101001100000 = .ok (.wrInterval 60000) := by decide
theorem test_decode_wrTrigger :
    decodeWord 0b0001010111111111111111111111111111111111 = .ok (.wrTrigger 0xFFFFFFFF) := by decide
theorem test_decode_wrDebug : decodeWord 0b0001011000000000000000000000000000000111 = .ok (.wrDebug 7) := by decide
theorem test_decode_rdGpioPin : decodeWord 0b0010000000000000000000000000000000000000 = .ok .rdGpioPin := by decide
theorem test_decode_rdAutoupdate : decodeWord 0b0010000100000000000000000000000000000000 = .ok .rdAutoupdate := by decide
theorem test_decode_rdInterval : decodeWord 0b0010001000000000000000000000000000000000 = .ok .rdInterval := by decide
theorem test_decode_rdHumidity : decodeWord 0b0010001100000000000000000000000000000000 = .ok .rdHumidity := by decide
theorem test_decode_rdTemperature : decodeWord 0b0010010000000000000000000000000000000000 = .ok .rdTemperature := by decide
theorem test_decode_rdData : decodeWord 0b0010011100000000000000000000000000000000 = .ok .rdData := by decide
theorem test_decode_shutdown : decodeWord 0b0011000000000000000000000000000000000000 = .ok .shutdown := by decide

theorem test_reserved_opcodes :
    [0x0000000000, 0x1000000000, 0x1300000000, 0x1700000000, 0x2500000000, 0x0600000000, 0xFF00000000].map
        (fun w => decodeWord w) =
      List.replicate 7 (Except.error DecodeReject.reservedOpcode) := by decide
theorem test_reserved_operands :
    [0x0200000001, 0x2380000000, 0x0100000002, 0x0180000000].map (fun w => decodeWord w) =
      List.replicate 4 (Except.error DecodeReject.reservedOperand) := by decide
theorem test_decodeTableWord : decodeTableWord 40 0x2700000000 = some .rdData ∧ decodeTableWord 40 0x2700000001 = none := by
  decide

/-! ### One step on a small state -/

/-- The state after a step, where there is one. -/
def stateAfter : Host.Outcome State Fault Refusal → Option State
  | .next t => some t
  | .fault _ => none
  | .refused _ => none

/-- The reason of a refusal. -/
def refusalOf : Host.Outcome State Fault Refusal → Option Refusal
  | .next _ => none
  | .fault _ => none
  | .refused r => some r

/-- A Sample Buffer with these elements from index 0, and no value in the others. -/
def bufferOf (l : List (Option Word)) : Vector (Option Word) nBits :=
  if h : (l ++ List.replicate (nBits - l.length) none).length = nBits then
    ⟨(l ++ List.replicate (nBits - l.length) none).toArray, by simpa using h⟩
  else Vector.replicate nBits none

/-- The samples of the vectors of section 2.4: 70 for each 1 bit and 26 for each 0 bit. -/
def framePulses (b0 b1 b2 b3 b4 : Byte) : Vector (Option Word) nBits :=
  bufferOf ((bitsOfBytes [b0, b1, b2, b3, b4]).map fun b => some (BitVec.ofNat 32 (pulseWidth b)))

/-- A capture at counter value `c`, with its reference at `r` and its time at `t`. -/
def capturing (c : Word) (r t : Nat) : State :=
  { State.reset with phase := .working, wdArmed := true, wdDeadline := 1003000, cnt := c, ref := r, now := t }

/-- State W of section 2.3, at time `t`. -/
def working (t : Nat) : State :=
  { State.reset with
    phase := .working, cnt := 20, ref := 4000, irq := 40, pinMode := .input, wdArmed := true, wdDeadline := 1003000
    nTrig := 1, now := t }

/-- State I of section 2.3, at time `t`. -/
def completed (t : Nat) : State :=
  { State.reset with cnt := 43, irq := 85, wdArmed := true, wdDeadline := 1001000, nTrig := 1, now := t }

/-- State T5 of section 2.3, at time `t`. -/
def waking (t : Nat) : State :=
  { State.reset with
    phase := .working, ref := 5000, pinMode := .outLow, wdArmed := true, wdDeadline := 1005000, wakeArmed := true
    wakeDeadline := 6000, nTrig := 1, now := t }

/-- The start state of section 2.4 with a Sample Buffer. -/
def decoding (x : Vector (Option Word) nBits) : State :=
  { State.reset with phase := .working, pinMode := .input, decodePending := true, now := 100, x := x }

/-- Vector E2. -/
theorem test_edge_stores_in_window :
    (stateAfter (exec (.edge .low) (capturing 3 2230 2256))).map (fun t => (t.x[0], t.cnt, t.ref, t.irq, t.outcome)) =
      some (some 26, 4, 2256, 1, some .ok) := by decide
/-- Vectors E3 and E6: the hand-off, and the low 32 bits of a long interval. -/
theorem test_edge_hands_off_and_truncates :
    (stateAfter (exec (.edge .low) (capturing 42 (2 ^ 32 + 10) (2 ^ 33 + 20)))).map
        (fun t => (t.x[39], t.cnt, t.decodePending, t.outcome)) =
      some (some 10, 43, true, some .handoff) := by decide
/-- Vectors S7 and S6. -/
theorem test_wakeRelease_at_its_deadline :
    (stateAfter (exec .wakeRelease (waking 6000))).map (fun t => (t.wakeArmed, t.pinMode)) = some (false, .input) := by
  decide
theorem test_wakeRelease_early_refused : refusalOf (exec .wakeRelease (waking 5999)) = some .notEnabled := by decide
/-- Vector S11. -/
theorem test_wdExpire_working :
    (stateAfter (exec .wdExpire (working 1003000))).map
        (fun t => (t.phase, t.nFail, t.lastCount, t.pinMode, t.outcome)) =
      some (.idle, 1, 40, .input, some .timeout) := by decide
/-- Vector S12. -/
theorem test_wdExpire_idle :
    (stateAfter (exec .wdExpire (completed 1001000))).map (fun t => (t.wdArmed, t.nFail, t.lastCount, t.outcome)) =
      some (false, 0, 85, some .wdIdle) := by decide
/-- Vector S17. -/
theorem test_refreshTick_counts_from_the_firing :
    (stateAfter (exec .refreshTick { State.reset with autoupdate := true, now := 12500000 })).map
        (fun t => (t.phase, t.arDeadline, t.wdDeadline, t.outcome)) =
      some (.working, 22500000, 13500000, some .triggered) := by decide
/-- Vector S18. -/
theorem test_refreshTick_busy_reschedules :
    (stateAfter (exec .refreshTick { working 10000000 with autoupdate := true, interval := 60000 })).map
        (fun t => (t.arDeadline, t.wdDeadline, t.outcome)) =
      some (60010000000, 1003000, some .busy) := by decide
/-- Vector D4: the sign bit is sign and magnitude, not two's complement. -/
theorem test_decode_negative_temperature :
    (stateAfter (exec .decode (decoding (framePulses 0x01 0xF4 0x80 0x64 0xD9)))).map
        (fun t => (t.humidity.toNat, t.temperature.toInt, t.phase, t.pinMode, t.outcome)) =
      some (500, -100, .idle, .outHigh, some .cksumOk) := by decide
/-- Vectors D2 and D16: the frame as printed in the source, no partial commit. -/
theorem test_decode_bad_checksum :
    (stateAfter (exec .decode
        { decoding (framePulses 0x01 0xF4 0x00 0xE8 0xED) with humidity := 500, temperature := 232 })).map
        (fun t => (t.humidity, t.temperature, t.nCksumErr, t.phase, t.outcome)) =
      some (500, 232, 1, .idle, some .cksumErr) := by decide
/-- Section 2.5. -/
theorem test_wrAutoupdate :
    (stateAfter (exec (.wrAutoupdate 5) State.reset)).map (fun t => (t.autoupdate, t.outcome)) = some (true, some .ok) := by
  decide
theorem test_wrInterval_bounds :
    [3, 60000, 2, 60001].map (fun n : Word =>
        (stateAfter (exec (.wrInterval n) State.reset)).map fun t => (t.interval.toNat, t.outcome)) =
      [some (3, some .ok), some (60000, some .ok), some (10, some .ignored), some (10, some .ignored)] := by decide
/-- Vector S5: an armed watchdog's deadline is replaced. -/
theorem test_wrTrigger_supersedes_the_watchdog :
    (stateAfter (exec (.wrTrigger 1) (completed 500000))).map
        (fun t => (t.phase, t.cnt, t.ref, t.wdDeadline, t.wakeDeadline, t.nTrig)) =
      some (.working, 0, 500000, 1500000, 501000, 2) := by decide
theorem test_wrTrigger_empty :
    (stateAfter (exec (.wrTrigger 0) State.reset)).map (fun t => (t.phase, t.nTrig, t.outcome)) =
      some (.idle, 0, some .noop) := by decide
theorem test_wrDebug_sets_and_does_not_toggle :
    (stateAfter (exec (.wrDebug 7) { State.reset with debug := true })).map (·.debug) = some true := by decide
theorem test_rdGpioPin : (stateAfter (exec .rdGpioPin State.reset)).map (·.rdata) = some (some 4) := by decide
theorem test_rdAutoupdate :
    (stateAfter (exec .rdAutoupdate { State.reset with autoupdate := true })).map (·.rdata) = some (some 1) := by decide
theorem test_rdInterval :
    (stateAfter (exec .rdInterval { State.reset with interval := 30 })).map (·.rdata) = some (some 0x1E) := by decide
theorem test_rdHumidity :
    (stateAfter (exec .rdHumidity { State.reset with humidity := 545 })).map (·.rdata) = some (some 0x221) := by decide
theorem test_rdTemperature_sign_extends :
    (stateAfter (exec .rdTemperature { State.reset with temperature := -100 })).map (·.rdata) =
      some (some 0xFFFFFF9C) := by decide
theorem test_rdData :
    (stateAfter (exec .rdData { State.reset with humidity := 65535, temperature := -32767 })).map (·.rdata) =
      some (some 0xFFFF8001) := by decide
theorem test_shutdown :
    (stateAfter (exec .shutdown { waking 10 with decodePending := true })).map
        (fun t => ([t.wdArmed, t.arArmed, t.wakeArmed, t.decodePending, t.stopped], t.phase, t.pinMode)) =
      some ([false, false, false, false, true], .working, .outLow) := by decide

/-! ### Dispatch (section 2.1), ports, load and assembly -/

/-- The block right after reset at time 100 with one operation presented. -/
def presented (op : OpWord) (t : Stamp) : State := { State.reset with now := 100, input := [⟨op, t⟩] }

theorem test_time_backwards_refused : refusalOf (step (presented 0x2300000000 99)) = some .timeBackwards := by decide
theorem test_equal_time_admitted :
    (stateAfter (step (presented 0x2300000000 100))).map (fun t => (t.now, t.rdata)) = some (100, some 0) := by decide
theorem test_operand_check_precedes_time : refusalOf (step (presented 0x0200000001 50)) = some .reservedOperand := by
  decide
theorem test_time_check_precedes_enabling : refusalOf (step (presented 0x0300000000 50)) = some .timeBackwards := by
  decide
theorem test_stopped_check_is_first :
    refusalOf (step { presented 0x0000000000 100 with stopped := true }) = some .stopped := by decide
theorem test_withFetchWord_runs_the_word :
    (stateAfter (step (State.reset.withFetchWord 40 0x0400000000))).map (fun t => (t.now, t.arDeadline)) =
      some (10000000, 20000000) := by decide
theorem test_dropPresented_goes_on :
    (stateAfter (step (State.dropPresented
        { presented 0x0000000000 100 with input := [⟨0x0000000000, 100⟩, ⟨0x2200000000, 100⟩] }))).map (·.rdata) =
      some (some 10) := by decide
theorem test_ports_at_reset :
    (State.reset.pinOe, State.reset.pinO, State.reset.faultPort, State.reset.pinMode.bits, State.reset.phase.bit) =
      (true, true, false, 1, 0) := by decide
theorem test_pending_events : ({ waking 1005000 with decodePending := true } : State).pendingEvents =
    [.wdExpire, .wakeRelease, .decode] := by decide
theorem test_load_failure_releases_in_reverse :
    load Params.reference (some .timeBase) = .loadFailed [.interruptLine, .pin] := by decide
/-- R79's example. -/
theorem test_assembly_example :
    (assembleLine "EDGE 0 @1200 ; falling".toList).toOption = some [⟨0x0100000000, 1200⟩] := by decide
theorem test_assembly_hexadecimal :
    (assembleLine "WR_TRIGGER 0xFFFFFFFF @5000".toList).toOption = some [⟨0x15FFFFFFFF, 5000⟩] := by decide
/-- Program P1's expansion ends at 5924. -/
theorem test_sensor_reply_of_P1 :
    ((sensorReply 0x01 0xF4 0x00 0xE8 0xDD 2000).getLast?.map (·.t.toNat), (sensorReply 1 0xF4 0 0xE8 0xDD 2000).length) =
      (some 5924, 84) := by decide

/-! ### Witnesses: states and operands that meet the hypotheses of each statement, at the bounds of their ranges -/

/-- A written Sample Buffer. -/
def allPulses (d : Word) : Vector (Option Word) nBits := Vector.replicate nBits (some d)

theorem written (s : State) (h : firstUnwritten 0 s.x.toList = none) : bufferWritten s := (bufferWritten_iff s.x).2 h

/-- Vector D17's start: one element holds no value. -/
def unwrittenAt5 : State :=
  { decoding (bufferOf (List.replicate 5 (some 26) ++ [none] ++ List.replicate 34 (some 26))) with phase := .idle }

theorem witness_DecodedWordIsItsEncoding : decodeWord 0x12FFFFFFFF = .ok (.wrInterval 0xFFFFFFFF) := by decide

theorem witness_PatternsSelectTheOperationsAndNeverOverlap :
    (⟨0xFFFFFFFFFE, 0x0100000000⟩ : OpPattern) ∈ opPatterns ∧ decodeWord 0x0100000001 = .ok (.edge .high) ∧
      (⟨0xFFFFFFFFFE, 0x0100000000⟩ : OpPattern).selects 0x0100000001 = true := by decide

theorem witness_RegisterOperationsFollowTheRegisterMap :
    HostReg.data.readOp = some .rdData ∧ HostReg.writeOp 7 .debug = some (.wrDebug 7) ∧
      HostReg.data.writeOp 7 = none ∧ HostReg.trigger.readOp = none := by decide

theorem witness_StepRunsTheDecodedInstruction :
    (presented 0x1500000001 100).input = ⟨0x1500000001, 100⟩ :: [] ∧ (presented 0x1500000001 100).stopped = false ∧
      decodeWord 0x1500000001 = .ok (.wrTrigger 1) ∧ (presented 0x1500000001 100).now ≤ (100 : Stamp).toNat := by decide

theorem witness_DispatchRefusesInOrder_stopped :
    ({ presented 0 0 with stopped := true } : State).input = [⟨0, 0⟩] ∧
      ({ presented 0 0 with stopped := true } : State).stopped = true := by decide
theorem witness_DispatchRefusesInOrder_reserved :
    decodeWord 0x1000000000 = .error .reservedOpcode ∧ decodeWord 0x0200000001 = .error .reservedOperand := by decide
theorem witness_DispatchRefusesInOrder_time :
    (presented 0x2300000000 99).stopped = false ∧ decodeWord 0x2300000000 = .ok .rdHumidity ∧
      (99 : Stamp).toNat < (presented 0x2300000000 99).now := by decide
theorem witness_DispatchRefusesInOrder_notEnabled :
    decodeWord 0x0500000000 = .ok .decode ∧ (presented 0x0500000000 100).now ≤ (100 : Stamp).toNat ∧
      State.enabled { presented 0x0500000000 100 with now := (100 : Stamp).toNat } .decode = false := by decide
theorem witness_DispatchRefusesInOrder_enabled :
    State.enabled { presented 0x2300000000 100 with now := (100 : Stamp).toNat } .rdHumidity = true := by decide

theorem witness_NoStepWithoutAPresentedOperation : State.reset.input = [] := by decide

theorem witness_OperationsCompleteExactlyWhenEnabled_enabled :
    (waking 6000).enabled .wakeRelease = true ∧ (working 1003000).enabled .wdExpire = true ∧
      ({ State.reset with now := 10000000 } : State).enabled .refreshTick = true ∧
      (decoding (allPulses 26)).enabled .decode = true ∧ State.reset.enabled .shutdown = true := by decide
theorem witness_OperationsCompleteExactlyWhenEnabled_disabled :
    (waking 5999).enabled .wakeRelease = false ∧ (working 1002999).enabled .wdExpire = false ∧
      ({ State.reset with now := 9999999 } : State).enabled .refreshTick = false ∧
      State.reset.enabled .decode = false := by decide

theorem witness_StepsCarryTimeForward : ∃ t, step (presented 0x1500000001 100) = .next t := ⟨_, rfl⟩

theorem witness_EveryAdmittedOperationReportsOnce :
    (∃ t, exec .rdData State.reset = .next t ∧ t.rdata.isSome = true) ∧
      ∃ t, exec .decode unwrittenAt5 = .next t ∧ t.outcome = some (.fault (.unwrittenSample 5)) :=
  ⟨⟨_, rfl, rfl⟩, ⟨_, rfl, rfl⟩⟩

theorem witness_FallingEdgeInWindowStoresTheInterval_first :
    (capturing 3 0 10).cfg.preamble ≤ (capturing 3 0 10).cnt.toNat ∧
      (capturing 3 0 10).cnt.toNat < (capturing 3 0 10).cfg.preamble + nBits ∧
      0 = (capturing 3 0 10).cnt.toNat - (capturing 3 0 10).cfg.preamble := by decide
theorem witness_FallingEdgeInWindowStoresTheInterval_last :
    (capturing 42 0 10).cfg.preamble ≤ (capturing 42 0 10).cnt.toNat ∧
      (capturing 42 0 10).cnt.toNat < (capturing 42 0 10).cfg.preamble + nBits ∧
      39 = (capturing 42 0 10).cnt.toNat - (capturing 42 0 10).cfg.preamble ∧
      38 ≠ (capturing 42 0 10).cnt.toNat - (capturing 42 0 10).cfg.preamble := by decide

theorem witness_FallingEdgeOutsideWindowStoresNothing :
    (capturing 2 0 10).cnt.toNat < (capturing 2 0 10).cfg.preamble ∧
      (capturing 43 0 10).cfg.preamble + nBits ≤ (capturing 43 0 10).cnt.toNat := by decide

theorem witness_HandOffExactlyAtTheFinalIndex :
    (capturing 42 0 10).cnt.toNat = (capturing 42 0 10).cfg.preamble + 39 ∧
      (capturing 41 0 10).cnt.toNat ≠ (capturing 41 0 10).cfg.preamble + 39 := by decide

theorem witness_HighPulseWidthIsMeasured :
    (capturing 3 0 10).cfg.preamble ≤ (capturing 3 0 10).cnt.toNat ∧
      (capturing 3 0 10).cnt.toNat < (capturing 3 0 10).cfg.preamble + nBits ∧ (capturing 3 0 10).now ≤ 80 ∧
      ∃ u v, exec (.edge .high) (capturing 3 0 10) = .next u ∧ exec (.edge .low) { u with now := 80 } = .next v :=
  ⟨by decide, by decide, by decide, _, _, rfl, rfl⟩

theorem witness_AnyNonEmptyWriteRequestsOneTrigger : (1 : Word) ≠ 0 ∧ (0xFFFFFFFF : Word) ≠ 0 := by decide

theorem witness_BusyTriggerChangesNothing : (working 4100).phase = .working ∧ (1 : Word) ≠ 0 := by decide

theorem witness_AcceptedTriggerStartsASession : (completed 500000).phase = .idle ∧ (0xFFFFFFFF : Word) ≠ 0 := by decide

theorem witness_WakeReleaseReleasesThePin :
    ((waking 6000).wakeArmed = true ∧ (waking 6000).wakeDeadline ≤ (waking 6000).now) ∧
      State.reset.wakeArmed = false ∧ (waking 5999).now < (waking 5999).wakeDeadline := by decide

theorem witness_WatchdogExpiryByPhase :
    ((working 1003000).wdArmed = true ∧ (working 1003000).wdDeadline ≤ (working 1003000).now ∧
        (working 1003000).phase = .working) ∧
      ((completed 1001000).wdArmed = true ∧ (completed 1001000).wdDeadline ≤ (completed 1001000).now ∧
        (completed 1001000).phase = .idle) ∧
      State.reset.wdArmed = false ∧ (working 1002999).now < (working 1002999).wdDeadline := by decide

/-- The block at a time, with auto-refresh as given. -/
def refreshing (on : Bool) (t : Nat) : State := { State.reset with autoupdate := on, now := t }

theorem witness_RefreshTickTriggersWhenEnabledAndReschedules :
    ((refreshing true 10000000).arArmed = true ∧ (refreshing true 10000000).arDeadline ≤ (refreshing true 10000000).now ∧
        (refreshing true 10000000).autoupdate = true) ∧
      (refreshing false 10000000).autoupdate = false ∧
      ({ State.reset with arArmed := false } : State).arArmed = false ∧
      (refreshing true 9999999).now < (refreshing true 9999999).arDeadline := by decide

theorem witness_SessionStateChangesOnlyAsTabled_triggers :
    (∃ t, exec (.wrTrigger 1) State.reset = .next t ∧ t.phase ≠ State.reset.phase) ∧
      (∃ t, exec .refreshTick (refreshing true 10000000) = .next t) ∧
      (∃ t, exec (.wrTrigger 1) (working 4100) = .next t) ∧
      ∃ t, exec .refreshTick { working 10000000 with autoupdate := true } = .next t :=
  ⟨⟨_, rfl, by decide⟩, ⟨_, rfl⟩, ⟨_, rfl⟩, ⟨_, rfl⟩⟩
theorem witness_SessionStateChangesOnlyAsTabled_ends :
    (∃ t, exec .wdExpire (working 1003000) = .next t) ∧ (∃ t, exec .wdExpire (completed 1001000) = .next t) ∧
      ∃ t, exec .decode (decoding (allPulses 26)) = .next t ∧ bufferWritten (decoding (allPulses 26)) :=
  ⟨⟨_, rfl⟩, ⟨_, rfl⟩, ⟨_, rfl, written _ (by decide)⟩⟩

/-- Vector D1's start with the watchdog due. -/
def raced : State :=
  { decoding (framePulses 0x01 0xF4 0x00 0xE8 0xDD) with wdArmed := true, wdDeadline := 100 }

theorem witness_WatchdogAndDecoderMayRunInEitherOrder :
    (raced.phase = .working ∧ raced.wdArmed = true ∧ raced.wdDeadline ≤ raced.now ∧ raced.decodePending = true ∧
      (frameOf raced.x).valid = true) ∧ bufferWritten raced :=
  ⟨by decide, written _ (by decide)⟩

theorem witness_TimedOutSessionRecovers :
    ∃ t, State.reset.phase = .idle ∧ (1 : Word) ≠ 0 ∧ exec (.wrTrigger 1) State.reset = .next t ∧
      999999 < State.reset.now + State.reset.cfg.wdUs ∧ State.reset.now + State.reset.cfg.wdUs ≤ 1000000 :=
  ⟨_, by decide, by decide, rfl, by decide, by decide⟩

/-- A decode of an earlier session still queued, Idle. -/
def stale : State := { decoding (allPulses 50) with phase := .idle }

theorem witness_StaleDecodeEndsTheNewSession :
    ∃ t, stale.phase = .idle ∧ (1 : Word) ≠ 0 ∧ stale.decodePending = true ∧ bufferWritten stale ∧
      exec (.wrTrigger 1) stale = .next t ∧ stale.now + stale.cfg.wdUs ≤ 1000100 :=
  ⟨_, by decide, by decide, by decide, written _ (by decide), rfl, by decide⟩

theorem witness_SamplesGiveTheFrameBits :
    (4 < 5 ∧ 7 < 8 ∧ 8 * 4 + 7 < nBits) ∧ (allPulses 50)[8 * 4 + 7] = some 50 ∧ (allPulses 51)[8 * 0 + 0] = some 51 := by
  decide

theorem witness_ValidFrameIsCommitted_positive :
    frameOf (framePulses 0x01 0xF4 0x7F 0xFF 0x73) = ⟨0x01, 0xF4, 0x7F, 0xFF, 0x73⟩ ∧
      (0x73 : Byte).toNat = ((0x01 : Byte).toNat + (0xF4 : Byte).toNat + (0x7F : Byte).toNat + (0xFF : Byte).toNat) % 256 ∧
      (0x7F : Byte).toNat < 128 := by decide
theorem witness_ValidFrameIsCommitted_negative :
    frameOf (framePulses 0x00 0x00 0x80 0x00 0x80) = ⟨0x00, 0x00, 0x80, 0x00, 0x80⟩ ∧
      (0x80 : Byte).toNat = ((0x00 : Byte).toNat + (0x00 : Byte).toNat + (0x80 : Byte).toNat + (0x00 : Byte).toNat) % 256 ∧
      128 ≤ (0x80 : Byte).toNat := by decide
theorem witness_ValidFrameIsCommitted_queued :
    (decoding (framePulses 0x01 0xF4 0x7F 0xFF 0x73)).decodePending = true ∧
      bufferWritten (decoding (framePulses 0x01 0xF4 0x7F 0xFF 0x73)) ∧
      bufferWritten (decoding (framePulses 0x00 0x00 0x80 0x00 0x80)) :=
  ⟨by decide, written _ (by decide), written _ (by decide)⟩

theorem witness_InvalidFrameIsDiscarded :
    ((decoding (framePulses 0x01 0xF4 0x00 0xE8 0xED)).decodePending = true ∧
      frameOf (framePulses 0x01 0xF4 0x00 0xE8 0xED) = ⟨0x01, 0xF4, 0x00, 0xE8, 0xED⟩ ∧
      (0xED : Byte).toNat ≠
        ((0x01 : Byte).toNat + (0xF4 : Byte).toNat + (0x00 : Byte).toNat + (0xE8 : Byte).toNat) % 256) ∧
      bufferWritten (decoding (framePulses 0x01 0xF4 0x00 0xE8 0xED)) :=
  ⟨by decide, written _ (by decide)⟩

theorem witness_DecodeTouchesNoCaptureTimerOrConfiguration :
    (decoding (allPulses 26)).decodePending = true ∧ unwrittenAt5.decodePending = true := by decide

theorem witness_DecodeDependsOnTheBufferAlone :
    ∃ t t', sameBuffer raced (decoding (framePulses 0x01 0xF4 0x00 0xE8 0xDD)) ∧ exec .decode raced = .next t ∧
      exec .decode (decoding (framePulses 0x01 0xF4 0x00 0xE8 0xDD)) = .next t' ∧ t.outcome = some .cksumOk :=
  ⟨_, _, fun _ _ => rfl, rfl, rfl, by decide⟩

theorem five_lt : 5 < nBits := by decide

theorem witness_DecodeOfAnUnwrittenSampleFaults :
    5 < nBits ∧ unwrittenAt5.decodePending = true ∧ unwrittenAt5.x[5] = none ∧
      ∀ j (hj : j < 5), unwrittenAt5.x[j]'(Nat.lt_trans hj five_lt) ≠ none :=
  ⟨by decide, by decide, by decide, fun j hj =>
    (by decide : ∀ j : Fin 5, unwrittenAt5.x[j.val]'(Nat.lt_trans j.isLt five_lt) ≠ none) ⟨j, hj⟩⟩
theorem witness_DecodeOfAnUnwrittenSampleFaults_first :
    0 < nBits ∧ ({ State.reset with decodePending := true } : State).x[0] = none := by decide

theorem witness_TemperatureDecodeIsAnInvolution :
    0x7FFF ≤ 0x7FFF ∧ (0xFF : Byte).toNat = 0x80 * true.toNat + 0x7FFF / 256 ∧ (0xFF : Byte).toNat = 0x7FFF % 256 ∧
      (0x00 : Byte).toNat = 0x80 * false.toNat + 0 / 256 ∧ (0x00 : Byte).toNat = 0 % 256 := by decide

/-- The bytes of vector D4. -/
def negativeBytes : Fin 5 → Byte
  | 0 => 0x01
  | 1 => 0xF4
  | 2 => 0x80
  | 3 => 0x64
  | 4 => 0xD9

theorem witness_PulsesOfAValidFrameReachTheHostRegisters_pulses :
    ∀ (k : Fin 5) (j : Nat), j < 8 → ∀ (h : 8 * k.val + j < nBits) (d : Word),
      (framePulses 0x01 0xF4 0x80 0x64 0xD9)[8 * k.val + j] = some d →
        (50 < d.toNat ↔ (negativeBytes k).getLsbD (7 - j) = true) := by
  have table : ∀ (k : Fin 5) (j : Fin 8),
      ((sampleAt (framePulses 0x01 0xF4 0x80 0x64 0xD9) (8 * k.val + j.val)).map fun d => decide (50 < d.toNat)) =
        some ((negativeBytes k).getLsbD (7 - j.val)) := by decide
  intro k j hj h d hd
  have entry := table k ⟨j, hj⟩
  rw [sampleAt_of_lt _ _ h, hd] at entry
  simpa using congrArg (· = some true) entry
theorem witness_PulsesOfAValidFrameReachTheHostRegisters :
    ((decoding (framePulses 0x01 0xF4 0x80 0x64 0xD9)).decodePending = true ∧
      (negativeBytes 4).toNat = ((negativeBytes 0).toNat + (negativeBytes 1).toNat + (negativeBytes 2).toNat +
        (negativeBytes 3).toNat) % 256) ∧
      bufferWritten (decoding (framePulses 0x01 0xF4 0x80 0x64 0xD9)) :=
  ⟨by decide, written _ (by decide)⟩

theorem witness_IntervalWriteIsRangeChecked :
    3 ≤ (3 : Word).toNat ∧ (60000 : Word).toNat ≤ 60000 ∧ (2 : Word).toNat < 3 ∧ 60000 < (60001 : Word).toNat := by decide

theorem witness_ReadsWriteNoState :
    Instr.rdData ∈ [Instr.rdGpioPin, .rdAutoupdate, .rdInterval, .rdHumidity, .rdTemperature, .rdData] := by decide

theorem witness_WrittenConfigurationReadsBack :
    (∃ t, exec (.wrAutoupdate 5) State.reset = .next t) ∧
      (∃ t, exec (.wrInterval 60000) State.reset = .next t ∧ 3 ≤ (60000 : Word).toNat ∧ (60000 : Word).toNat ≤ 60000) ∧
      ∃ t, exec (.wrInterval 2) State.reset = .next t ∧ (2 : Word).toNat < 3 :=
  ⟨⟨_, rfl⟩, ⟨_, rfl, by decide, by decide⟩, ⟨_, rfl, by decide⟩⟩

theorem witness_HostWritesKeepTheReadOnlyRegisters :
    ∃ t, HostReg.data.writeOp 7 = none ∧ exec (.wrTrigger 7) State.reset = .next t ∧
      Instr.wrTrigger 7 ∈ [Instr.wrAutoupdate 7, .wrInterval 7, .wrTrigger 7, .wrDebug 7] :=
  ⟨_, by decide, rfl, by decide⟩

theorem witness_ReadingIsOverwrittenOnlyByAValidFrame :
    ∃ t, exec .decode (decoding (framePulses 0x01 0xF4 0x80 0x64 0xD9)) = .next t ∧
      t.humidity ≠ (decoding (framePulses 0x01 0xF4 0x80 0x64 0xD9)).humidity :=
  ⟨_, rfl, by decide⟩

theorem witness_SampleBufferIsWrittenOnlyByInWindowEdges :
    (∃ t, exec (.edge .low) (capturing 42 0 10) = .next t ∧ t.x[39] ≠ (capturing 42 0 10).x[39]) ∧
      (allPulses 26)[0] = some 26 :=
  ⟨⟨_, rfl, by decide⟩, by decide⟩

theorem witness_DiagnosticsCountersMoveOnlyOnTheirEvents :
    (∃ t, exec (.wrTrigger 1) State.reset = .next t ∧ t.outcome = some .triggered) ∧
      (∃ t, exec .wdExpire (working 1003000) = .next t ∧ t.outcome = some .timeout) ∧
      ∃ t, exec .decode (decoding (framePulses 0x01 0xF4 0x00 0xE8 0xED)) = .next t ∧ t.outcome = some .cksumErr :=
  ⟨⟨_, rfl, by decide⟩, ⟨_, rfl, by decide⟩, ⟨_, rfl, by decide⟩⟩

theorem witness_PinModeIsWrittenOnlyByItsThreeWriters :
    (∃ t, exec (.wrTrigger 1) State.reset = .next t ∧ t.pinMode ≠ State.reset.pinMode) ∧
      (∃ t, exec .wakeRelease (waking 6000) = .next t ∧ t.pinMode ≠ (waking 6000).pinMode) ∧
      ∃ t, exec .decode (decoding (allPulses 50)) = .next t ∧ t.outcome = some .cksumOk ∧
        t.pinMode ≠ (decoding (allPulses 50)).pinMode :=
  ⟨⟨_, rfl, by decide⟩, ⟨_, rfl, by decide⟩, ⟨_, rfl, by decide, by decide⟩⟩

theorem witness_TimersAreArmedAndDisarmedOnlyByTheirWriters :
    (∃ t, exec (.wrTrigger 1) State.reset = .next t) ∧ (∃ t, exec .refreshTick (refreshing true 10000000) = .next t) ∧
      ∃ t, exec .shutdown (waking 10) = .next t := ⟨⟨_, rfl⟩, ⟨_, rfl⟩, ⟨_, rfl⟩⟩

theorem witness_ConfigurationIsWrittenOnlyByItsOwnOperation :
    (∃ t, exec (.wrAutoupdate 1) State.reset = .next t ∧ t.autoupdate ≠ State.reset.autoupdate) ∧
      (∃ t, exec (.wrInterval 3) State.reset = .next t ∧ t.interval ≠ State.reset.interval) ∧
      ∃ t, exec (.wrDebug 7) State.reset = .next t ∧ t.debug ≠ State.reset.debug :=
  ⟨⟨_, rfl, by decide⟩, ⟨_, rfl, by decide⟩, ⟨_, rfl, by decide⟩⟩

theorem witness_MarksAreSticky :
    (∃ t, exec .shutdown State.reset = .next t ∧ t.stopped = true) ∧
      ∃ t, exec .decode unwrittenAt5 = .next t ∧ t.faulted = true :=
  ⟨⟨_, rfl, rfl⟩, ⟨_, rfl, rfl⟩⟩

theorem witness_LoadLeavesTheResetState :
    Params.reference.wellFormed = true ∧ (Params.mk (2 ^ 32 - 40) 1 1000 0xFFFFFFFF true 60000).wellFormed = true := by
  decide

theorem witness_LoadedStateSatisfiesTheInvariant : (Params.mk 0 1 1000 0 true 3).wellFormed = true := by decide

theorem witness_Inv : Inv (presented 0x1500000001 100) where
  parameters := by decide
  watchdogArmed := by decide
  refreshArmed := by decide
  stoppedQuiet := by decide
  intervalLow := by decide
  intervalHigh := by decide
  temperatureRange := by decide
  referencePast := by decide
  timeOnPort := by decide
  windowWritten := fun i _ h => absurd h (by simp [presented, State.reset, State.resetWith])
  pendingWritten := fun h => absurd h (by decide)

theorem witness_EveryStepKeepsTheInvariant :
    ∃ t, Inv (presented 0x1500000001 100) ∧ step (presented 0x1500000001 100) = .next t := ⟨_, witness_Inv, rfl⟩

theorem witness_NoStepFaultsUnderTheInvariant :
    ∃ t, Inv (presented 0x1500000001 100) ∧ step (presented 0x1500000001 100) = .next t ∧ t.phase = .working :=
  ⟨_, witness_Inv, rfl, rfl⟩

theorem witness_WorkingReachable :
    ∃ t, Params.reference.wellFormed = true ∧ Reachable Params.reference t ∧ t.phase = .working :=
  ⟨_, by decide,
    Reachable.step (Reachable.present [⟨0x1500000001, 5000⟩] Reachable.load) rfl, rfl⟩

theorem witness_ReachableStatesAreSafe : Params.reference.wellFormed = true ∧ Reachable Params.reference State.reset :=
  ⟨by decide, Reachable.load⟩

theorem witness_WorkingSessionKeepsAnArmedWatchdog :
    ∃ t, ((presented 0x1500000001 100).stopped = false → (presented 0x1500000001 100).phase = .working →
        (presented 0x1500000001 100).wdArmed = true) ∧
      step (presented 0x1500000001 100) = .next t ∧ t.stopped = false ∧ t.phase = .working :=
  ⟨_, by decide, rfl, rfl, rfl⟩

theorem witness_WorkingImpliesArmedInEveryReachableState :
    ∃ t, Params.reference.wellFormed = true ∧ Reachable Params.reference t ∧ t.phase = .working := witness_WorkingReachable

end Sys2Proof.Tests
end

section
/-! The bits of the decoded frame, read off the Sample Buffer (R60, R102, R103). -/

namespace Sys2Proof.Machine

/-- The sum of R103 for a byte of `n` bits: `b 0` is the most significant bit. -/
def msbFirstSum (n : Nat) (b : Nat → Bool) : Nat :=
  ((List.range n).map fun j => (b j).toNat * 2 ^ (n - 1 - j)).sum

theorem byteAt_eq_msbFirstSum (x : Vector (Option Word) nBits) (k : Nat) :
    byteAt x k = BitVec.ofNat 8 (msbFirstSum 8 fun j => bitAt x (8 * k + j)) := rfl

/-- The first bit has weight `2 ^ n`, and the other bits are a sum of the same kind. -/
theorem msbFirstSum_succ (n : Nat) (b : Nat → Bool) :
    msbFirstSum (n + 1) b = 2 ^ n * (b 0).toNat + msbFirstSum n fun j => b (j + 1) := by
  have weight (j : Nat) : n - 1 - j = n - (j + 1) := by omega
  simp [msbFirstSum, List.range_succ_eq_map, Function.comp_def, weight, Nat.mul_comm (2 ^ n)]

theorem msbFirstSum_lt (n : Nat) (b : Nat → Bool) : msbFirstSum n b < 2 ^ n := by
  induction n generalizing b with
  | zero => simp [msbFirstSum]
  | succ n ih =>
    rw [msbFirstSum_succ, pow_succ]
    have rest := ih fun j => b (j + 1)
    cases b 0 <;> simp <;> omega

/-- No term of the sum carries into another: bit `n - 1 - j` of it is `b j`. -/
theorem testBit_msbFirstSum (n : Nat) (b : Nat → Bool) (j : Nat) (hj : j < n) :
    (msbFirstSum n b).testBit (n - 1 - j) = b j := by
  induction n generalizing b j with
  | zero => omega
  | succ n ih =>
    rw [msbFirstSum_succ, Nat.testBit_two_pow_mul_add _ (msbFirstSum_lt n _)]
    cases j with
    | zero => cases b 0 <;> simp
    | succ j =>
      have below : n + 1 - 1 - (j + 1) = n - 1 - j := by omega
      rw [below, if_pos (by omega), ih _ j (by omega)]

/-- Sample `8k + j` gives bit `7 - j` of byte `k` (R60, R103). -/
theorem getLsbD_byteAt (x : Vector (Option Word) nBits) (k j : Nat) (hj : j < 8) :
    (byteAt x k).getLsbD (7 - j) = bitAt x (8 * k + j) := by
  have inByte : 7 - j < 8 := by omega
  rw [byteAt_eq_msbFirstSum, BitVec.getLsbD_ofNat, testBit_msbFirstSum 8 _ j hj]
  simp [inByte]

theorem bytes_frameOf (x : Vector (Option Word) nBits) :
    (frameOf x).bytes = (List.range 5).map (byteAt x) := rfl

theorem getD_bytes_frameOf (x : Vector (Option Word) nBits) (k : Nat) (hk : k < 5) :
    (frameOf x).bytes.getD k 0 = byteAt x k := by
  simp [bytes_frameOf, hk]

/-- Settles O30: bit `7 - j` of byte `k` is the bit of sample `8k + j`, which the threshold alone decides. -/
theorem samplesGiveTheFrameBits : Obligations.SamplesGiveTheFrameBits := by
  intro x k j hk hj h d hx
  rw [getD_bytes_frameOf x k hk, getLsbD_byteAt x k j hj, bitAt_of_some x _ h d hx]
  exact decide_eq_true_iff

end Sys2Proof.Machine
end

section
/-! The Acquisition Sequencer (spec/41_sequencer.md): RequestTrigger by session state, the timer operations by their
enabling condition, and what they give. -/

namespace Sys2Proof.Machine

/-! ### RequestTrigger and WR_TRIGGER -/

theorem requestTrigger_of_working {s : State} (h : s.phase = .working) : requestTrigger s = report .busy s := by
  simp [requestTrigger, h]

theorem requestTrigger_of_idle {s : State} (h : s.phase = .idle) : requestTrigger s = acceptTrigger s := by
  simp [requestTrigger, h]

@[simp] theorem requestTrigger_now (s : State) : (requestTrigger s).now = s.now := by
  rcases requestTrigger_cases s with ⟨-, e⟩ | ⟨-, e⟩ <;> simp [e]

@[simp] theorem requestTrigger_interval (s : State) : (requestTrigger s).interval = s.interval := by
  rcases requestTrigger_cases s with ⟨-, e⟩ | ⟨-, e⟩ <;> simp [e]

theorem exec_wrTrigger_zero (s : State) : exec (.wrTrigger 0) s = .next (report .noop s) := rfl

/-- The length of a non-empty write does not matter (R93). -/
theorem exec_wrTrigger_of_ne_zero {n : Word} (h : n ≠ 0) (s : State) :
    exec (.wrTrigger n) s = .next (requestTrigger s) := by
  have nonEmpty : nonEmptyWrite n = true := (nonEmptyWrite_iff n).2 h
  simp [exec, execWrTrigger, writeTrigger, nonEmpty]

/-- Settles O20: `nonEmptyWrite` is all that WR_TRIGGER reads of its operand. -/
theorem anyNonEmptyWriteRequestsOneTrigger : Obligations.AnyNonEmptyWriteRequestsOneTrigger := fun s =>
  ⟨rfl, rfl, exec_wrTrigger_zero s, fun _ hn => exec_wrTrigger_of_ne_zero hn s⟩

/-- Settles O21: RequestTrigger while Working is the report of BUSY and nothing else. -/
theorem busyTriggerChangesNothing : Obligations.BusyTriggerChangesNothing := by
  intro s n hworking hn
  rw [exec_wrTrigger_of_ne_zero hn, requestTrigger_of_working hworking]
  rfl

/-- Settles O22: RequestTrigger while Idle is AcceptTrigger, whose fields are known one by one. -/
theorem acceptedTriggerStartsASession : Obligations.AcceptedTriggerStartsASession := by
  intro s n hidle hn
  refine ⟨acceptTrigger s, ?_, ?_⟩
  · rw [exec_wrTrigger_of_ne_zero hn, requestTrigger_of_idle hidle]
  · simp [sameBuffer, sameReading, sameRefresh, sameSettings, sameMarks, sameSurroundings]

/-! ### Timer operations -/

/-- A timer that is not due is disarmed or early (R78). -/
theorem not_armed_and_due_iff (armed : Bool) (deadline now : Nat) :
    ¬(armed = true ∧ deadline ≤ now) ↔ armed = false ∨ now < deadline := by
  rw [not_and_or, Bool.not_eq_true, not_le]

theorem exec_wdExpire_of_due {s : State} (harmed : s.wdArmed = true) (hdue : s.wdDeadline ≤ s.now) :
    exec .wdExpire s = .next (expireWatchdog s) :=
  (execWdExpire_next s _).2 ⟨⟨harmed, hdue⟩, rfl⟩

theorem exec_wdExpire_of_not_due {s : State} (h : s.wdArmed = false ∨ s.now < s.wdDeadline) :
    exec .wdExpire s = .refused .notEnabled := by
  have notReady : ¬s.wdReady = true := by rwa [wdReady_iff, not_armed_and_due_iff]
  simp [exec, execWdExpire, notReady]

theorem exec_refreshTick_of_due {s : State} (harmed : s.arArmed = true) (hdue : s.arDeadline ≤ s.now) :
    exec .refreshTick s = .next (reschedule (refreshTrigger s)) :=
  (execRefreshTick_next s _).2 ⟨⟨harmed, hdue⟩, rfl⟩

theorem exec_refreshTick_of_not_due {s : State} (h : s.arArmed = false ∨ s.now < s.arDeadline) :
    exec .refreshTick s = .refused .notEnabled := by
  have notReady : ¬s.arReady = true := by rwa [arReady_iff, not_armed_and_due_iff]
  simp [exec, execRefreshTick, notReady]

theorem expireWatchdog_of_working {s : State} (h : s.phase = .working) :
    expireWatchdog s = report .timeout (failSession (closeWatchdog s)) := by
  simp [expireWatchdog, h]

theorem expireWatchdog_of_idle {s : State} (h : s.phase = .idle) :
    expireWatchdog s = report .wdIdle (closeWatchdog s) := by
  simp [expireWatchdog, h]

/-- Settles O24: due or not, then the session state alone decides. -/
theorem watchdogExpiryByPhase : Obligations.WatchdogExpiryByPhase := by
  intro s
  refine ⟨rfl, rfl, fun harmed hdue => ⟨fun hworking => ?_, fun hidle => ?_⟩, exec_wdExpire_of_not_due⟩
  · rw [exec_wdExpire_of_due harmed hdue, expireWatchdog_of_working hworking]
    rfl
  · rw [exec_wdExpire_of_due harmed hdue, expireWatchdog_of_idle hidle]
    rfl

/-- The new deadline counts from the firing time: a trigger writes neither `now` nor the interval (R96). -/
theorem reschedule_requestTrigger (s : State) :
    reschedule (requestTrigger s) =
      { requestTrigger s with arDeadline := s.now + 1000000 * s.interval.toNat } := by
  simp [reschedule]

/-- Settles O25: due or not, then auto-refresh on or off; the deadline is written in both cases. -/
theorem refreshTickTriggersWhenEnabledAndReschedules :
    Obligations.RefreshTickTriggersWhenEnabledAndReschedules := by
  intro s
  refine ⟨rfl, rfl, fun harmed hdue => ⟨fun hon => ?_, fun hoff => ?_⟩, exec_refreshTick_of_not_due⟩
  · have triggers : refreshTrigger s = requestTrigger s := by simp [refreshTrigger, hon]
    rw [exec_refreshTick_of_due harmed hdue, triggers, reschedule_requestTrigger]
  · have reports : refreshTrigger s = report .ok s := by simp [refreshTrigger, hoff]
    rw [exec_refreshTick_of_due harmed hdue, reports]
    rfl

end Sys2Proof.Machine
end

section
/-! The Frame Decoder (spec/42_decoder.md): DECODE on a fully written buffer, and the temperature by its sign bit. -/

namespace Sys2Proof.Machine

/-- DECODE never faults on a written buffer, so the verdict on its frame is all that is left open (R100). -/
theorem exec_decode_of_written {s : State} (hqueued : s.decodePending = true) (hwritten : bufferWritten s) :
    exec .decode s = .next (finishDecode (commitFrame (frameOf s.x) (dequeueDecode s))) :=
  (execDecode_next s _).2 ⟨hqueued, .inr ⟨(bufferWritten_iff s.x).1 hwritten, rfl⟩⟩

theorem commitFrame_of_valid {f : Frame} (h : f.valid = true) (s : State) :
    commitFrame f s = report .cksumOk (commitReading f s) := by
  simp [commitFrame, h]

/-- With the sign bit clear, `M` is all of `b[2] ++ b[3]` (R105). -/
theorem Frame.temperature_of_sign_clear {f : Frame} (h : f.b2.toNat < 128) :
    f.temperature = ((256 * f.b2.toNat + f.b3.toNat : Nat) : Int) := by
  have clear : f.sign = false := by simpa [Frame.sign_eq] using h
  simp [Frame.temperature, clear, Frame.magnitude_toNat, Nat.mod_eq_of_lt h]

/-- With the sign bit set, `M` is `b[2] ++ b[3]` without that bit, and `T` is its negation (R105). -/
theorem Frame.temperature_of_sign_set {f : Frame} (h : 128 ≤ f.b2.toNat) :
    f.temperature = -((256 * (f.b2.toNat - 128) + f.b3.toNat : Nat) : Int) := by
  have set : f.sign = true := by simpa [Frame.sign_eq] using h
  have below : f.b2.toNat % 128 = f.b2.toNat - 128 := by
    have := f.b2.isLt
    omega
  simp only [Frame.temperature, set, if_true, Frame.magnitude_toNat, below]

/-- Settles O31: on a written buffer with a valid checksum, DECODE commits the frame, and the temperature register
holds the decoded value exactly, by its sign bit. -/
theorem validFrameIsCommitted : Obligations.ValidFrameIsCommitted := by
  rintro s f hqueued hwritten rfl hchecksum
  have valid : (frameOf s.x).valid = true := (Frame.valid_iff _).2 hchecksum
  have register := Frame.temperature_toInt (frameOf s.x)
  refine ⟨finishDecode (report .cksumOk (commitReading (frameOf s.x) (dequeueDecode s))), ?_, ?_⟩
  · rw [exec_decode_of_written hqueued hwritten, commitFrame_of_valid valid]
  · refine ⟨Frame.humidity_toNat _, fun hclear => ?_, fun hset => ?_, by simp⟩
    · exact register.trans (Frame.temperature_of_sign_clear hclear)
    · exact register.trans (Frame.temperature_of_sign_set hset)

end Sys2Proof.Machine
end

section
/-! The host's operations (spec/43_host.md): the configuration writes, the register reads, and SHUTDOWN with what it
does to every word presented afterwards. -/

namespace Sys2Proof.Machine

/-! ### Configuration writes -/

/-- The value is read as a whole word: any set bit means on (R113, R115). -/
theorem boolOfValue_eq_decide (v : Word) : boolOfValue v = decide (v.toNat ≠ 0) := by
  rw [Bool.eq_iff_iff, decide_eq_true_iff]
  simp [boolOfValue, BitVec.toNat_eq]

theorem exec_wrAutoupdate (v : Word) (s : State) :
    exec (.wrAutoupdate v) s = .next (report .ok (setAutoupdate (decide (v.toNat ≠ 0)) s)) := by
  rw [← boolOfValue_eq_decide]
  rfl

theorem exec_wrDebug (v : Word) (s : State) :
    exec (.wrDebug v) s = .next (report .ok (setDebug (decide (v.toNat ≠ 0)) s)) := by
  rw [← boolOfValue_eq_decide]
  rfl

/-- Settles O38: each of the two writes is one setter and the report of OK, and neither touches anything else. -/
theorem booleanWritesSetTheirFlag : Obligations.BooleanWritesSetTheirFlag := fun s v =>
  ⟨rfl, rfl, rfl, rfl, exec_wrAutoupdate v s, exec_wrDebug v s⟩

theorem exec_wrInterval_of_inRange {n : Word} (hlow : 3 ≤ n.toNat) (hhigh : n.toNat ≤ 60000) (s : State) :
    exec (.wrInterval n) s = .next (report .ok (setInterval (intervalOfValue n) s)) := by
  have inRange : intervalInRange n = true := (intervalInRange_iff n).2 ⟨hlow, hhigh⟩
  simp [exec, execWrInterval, writeInterval, inRange]

theorem exec_wrInterval_of_outOfRange {n : Word} (h : n.toNat < 3 ∨ 60000 < n.toNat) (s : State) :
    exec (.wrInterval n) s = .next (report .ignored s) := by
  have outOfRange : ¬intervalInRange n = true := by
    rw [intervalInRange_iff]
    omega
  simp [exec, execWrInterval, writeInterval, outOfRange]

/-- Settles O39: a value in range fits the 16-bit register, and one out of range is only reported. -/
theorem intervalWriteIsRangeChecked : Obligations.IntervalWriteIsRangeChecked := by
  intro s n
  refine ⟨rfl, rfl, fun hlow hhigh => ?_, fun hout => exec_wrInterval_of_outOfRange hout s⟩
  exact ⟨_, exec_wrInterval_of_inRange hlow hhigh s, intervalOfValue_toNat n hhigh, rfl⟩

/-! ### Register reads -/

/-- The word of RD_DATA: humidity above temperature (R121). -/
theorem toNat_append_half (high low : Half) :
    (high ++ low : BitVec (16 + 16)).toNat = 65536 * high.toNat + low.toNat := by
  rw [BitVec.toNat_append, ← Nat.shiftLeft_add_eq_or_of_lt low.isLt, Nat.shiftLeft_eq, Nat.mul_comm]

/-- Settles O40: each read reports `memRead` of its register, and widening that register, by zeros or by the sign, or
joining two of them keeps the value. -/
theorem readsReturnTheirRegisters : Obligations.ReadsReturnTheirRegisters := by
  intro s
  refine ⟨rfl, ⟨_, rfl, rfl⟩, ⟨_, _, rfl, rfl, ?autoupdate⟩, ⟨_, _, rfl, rfl, ?interval⟩,
    ⟨_, _, rfl, rfl, ?humidity⟩, ⟨_, _, rfl, rfl, ?temperature⟩, ⟨_, _, rfl, rfl, ?data⟩⟩
  case autoupdate => exact (BitVec.toNat_setWidth_of_le (by decide)).trans (BitVec.toNat_ofBool s.autoupdate)
  case interval => exact BitVec.toNat_setWidth_of_le (by decide)
  case humidity => exact BitVec.toNat_setWidth_of_le (by decide)
  case temperature => exact BitVec.toInt_signExtend_of_le (by decide)
  case data => exact toNat_append_half s.humidity s.temperature

/-! ### SHUTDOWN -/

/-- The stopped check comes before the word is decoded and before its time is looked at (R78, R126). -/
theorem step_of_stopped {s : State} {p : PortOp} {rest : List PortOp} (hinput : s.input = p :: rest)
    (hstopped : s.stopped = true) : step s = .refused .stopped := by
  simp [step, admissionOf, admitOp, hinput, hstopped]

/-- Settles O44: the fields of the stopped block are known one by one, and its mark alone refuses every later word. -/
theorem shutdownCancelsEverythingAndStops : Obligations.ShutdownCancelsEverythingAndStops := by
  intro s
  have refusesAll (p : PortOp) (rest : List PortOp) :
      step { stopBlock s with input := p :: rest } = .refused .stopped := step_of_stopped rfl rfl
  refine ⟨rfl, rfl, stopBlock s, rfl, ?_⟩
  simpa [sameCounters, sameBuffer, sameReading, sameDiagnostics, sameSettings, sameSurroundings]
    using refusesAll

end Sys2Proof.Machine
end

section
/-! Dispatch (R78, R126): the checks in their order, the enabling condition last. -/

namespace Sys2Proof.Machine

/-! ### The enabling check -/

/-- Only the three timer operations and DECODE have a condition that can fail (R78). -/
theorem exec_of_not_enabled {i : Instr} {s : State} (h : s.enabled i = false) :
    exec i s = .refused .notEnabled := by
  cases i with
  | wakeRelease =>
    have notReady : s.wakeReady = false := h
    simp [exec, execWakeRelease, notReady]
  | wdExpire =>
    have notReady : s.wdReady = false := h
    simp [exec, execWdExpire, notReady]
  | refreshTick =>
    have notReady : s.arReady = false := h
    simp [exec, execRefreshTick, notReady]
  | decode =>
    have notQueued : s.decodePending = false := h
    simp [exec, execDecode, notQueued]
  | _ => cases h

/-- No rule refuses an operation whose condition holds; DECODE's fault is a next state too (R127). -/
theorem exec_of_enabled {i : Instr} {s : State} (h : s.enabled i = true) : ∃ t, exec i s = .next t := by
  cases i with
  | edge level => cases level <;> exact ⟨_, rfl⟩
  | wakeRelease => exact ⟨_, (execWakeRelease_next s _).2 ⟨(wakeReady_iff s).1 h, rfl⟩⟩
  | wdExpire => exact ⟨_, (execWdExpire_next s _).2 ⟨(wdReady_iff s).1 h, rfl⟩⟩
  | refreshTick => exact ⟨_, (execRefreshTick_next s _).2 ⟨(arReady_iff s).1 h, rfl⟩⟩
  | decode =>
    cases hfirst : firstUnwritten 0 s.x.toList with
    | none => exact ⟨_, (execDecode_next s _).2 ⟨h, .inr ⟨hfirst, rfl⟩⟩⟩
    | some k => exact ⟨_, (execDecode_next s _).2 ⟨h, .inl ⟨k, hfirst, rfl⟩⟩⟩
  | _ => exact ⟨_, rfl⟩

/-- The enabling condition reads the operation's time, not what the environment presents after it. -/
@[simp] theorem enabled_takeOperation (rest : List PortOp) (t : Nat) (s : State) (i : Instr) :
    (takeOperation rest t s).enabled i = State.enabled { s with now := t } i := rfl

/-! ### The checks before the rule -/

section
variable {s : State} {p : PortOp} {rest : List PortOp}

/-- A reserved word is refused before its time is looked at. -/
theorem step_of_reserved {e : DecodeReject} (hinput : s.input = p :: rest) (hrunning : s.stopped = false)
    (hword : decodeWord p.op = .error e) : step s = .refused (Refusal.ofReject e) := by
  simp [step, admissionOf, admitOp, hinput, hrunning, hword]

/-- A time before `now` is refused before the enabling condition is looked at. -/
theorem step_of_early {i : Instr} (hinput : s.input = p :: rest) (hrunning : s.stopped = false)
    (hword : decodeWord p.op = .ok i) (hearly : p.t.toNat < s.now) : step s = .refused .timeBackwards := by
  simp [step, admissionOf, admitOp, hinput, hrunning, hword, hearly]

theorem step_of_admitted {i : Instr} (hinput : s.input = p :: rest) (hrunning : s.stopped = false)
    (hword : decodeWord p.op = .ok i) (htime : s.now ≤ p.t.toNat) :
    step s = exec i (takeOperation rest p.t.toNat s) := by
  have admitted : admissionOf s = .run i (takeOperation rest p.t.toNat s) :=
    (admissionOf_run_iff s _ i).2 ⟨p, rest, hinput, hrunning, hword, htime, rfl⟩
  simp [step, admitted]

end

/-- Settles O7: each check has its own step lemma, and past all of them the operation's own enabling check decides. -/
theorem dispatchRefusesInOrder : Obligations.DispatchRefusesInOrder := by
  intro s p rest hinput
  refine ⟨step_of_stopped hinput, fun hrunning => ⟨?opcode, ?operand, fun i hword => ?_⟩, rfl⟩
  case opcode => exact step_of_reserved hinput hrunning
  case operand => exact step_of_reserved hinput hrunning
  refine ⟨step_of_early hinput hrunning hword, ?disabled, ?enabled⟩
  case disabled =>
    intro htime hdisabled
    rw [step_of_admitted hinput hrunning hword htime]
    exact exec_of_not_enabled ((enabled_takeOperation rest _ s i).trans hdisabled)
  case enabled =>
    intro htime henabled
    rw [step_of_admitted hinput hrunning hword htime]
    exact exec_of_enabled ((enabled_takeOperation rest _ s i).trans henabled)

end Sys2Proof.Machine
end

section
/-! The operation word (R71, R73, R75 to R77): the decoder and the patterns in terms of the word's two fields. -/

namespace Sys2Proof

/-! ### The opcode map -/

/-- One operation per row of R75, with operand 0. -/
def opcodeMap : List Instr :=
  [.edge .low, .wakeRelease, .wdExpire, .refreshTick, .decode, .wrAutoupdate 0, .wrInterval 0, .wrTrigger 0, .wrDebug 0,
   .rdGpioPin, .rdAutoupdate, .rdInterval, .rdHumidity, .rdTemperature, .rdData, .shutdown]

/-- The operation of the same row with the operand bits `v`; format N has no operand to replace (R73, R74). -/
def Instr.withOperand (v : Word) : Instr → Instr
  | .edge _ => .edge (levelOfBit v)
  | .wrAutoupdate _ => .wrAutoupdate v
  | .wrInterval _ => .wrInterval v
  | .wrTrigger _ => .wrTrigger v
  | .wrDebug _ => .wrDebug v
  | i => i

@[simp] theorem opcode_withOperand (v : Word) (i : Instr) : (i.withOperand v).opcode = i.opcode := by
  cases i <;> rfl

@[simp] theorem format_withOperand (v : Word) (i : Instr) : (i.withOperand v).format = i.format := by
  cases i <;> rfl

theorem withOperand_operand (i : Instr) : i.withOperand i.operand = i := by
  cases i with
  | edge level => cases level <;> rfl
  | _ => rfl

/-- The operand bits that the format admits are all kept. -/
theorem operand_withOperand {v : Word} {i : Instr} (h : i.format.admits v = true) :
    (i.withOperand v).operand = v := by
  cases i with
  | edge level => rcases (admits_level_iff v).1 h with rfl | rfl <;> rfl
  | wrAutoupdate | wrInterval | wrTrigger | wrDebug => rfl
  | _ => exact ((admits_none_iff v).1 h).symm

theorem admits_operand (i : Instr) : i.format.admits i.operand = true := by
  cases i with
  | edge level => cases level <;> rfl
  | _ => rfl

theorem withOperand_zero_mem (i : Instr) : i.withOperand 0 ∈ opcodeMap := by
  cases i <;> simp [Instr.withOperand, levelOfBit, opcodeMap]

/-- The opcodes of R75, as its operations have them. -/
theorem mem_opcodes_iff (c : Byte) :
    c.toNat ∈ [0x01, 0x02, 0x03, 0x04, 0x05, 0x11, 0x12, 0x15, 0x16, 0x20, 0x21, 0x22, 0x23, 0x24, 0x27, 0x30] ↔
      ∃ i : Instr, c = i.opcode := by
  constructor
  · intro h
    obtain ⟨i, -, hi⟩ : ∃ i ∈ opcodeMap, i.opcode.toNat = c.toNat := List.mem_map.1 h
    exact ⟨i, BitVec.eq_of_toNat_eq hi.symm⟩
  · rintro ⟨i, rfl⟩
    cases i <;> simp [Instr.opcode]

/-! ### The decoder by fields -/

/-- A word with an operation's opcode decodes to that operation with the word's operand, where the format admits it. -/
theorem decodeWord_of_opcode {op : OpWord} {i : Instr} (h : opcodeField op = i.opcode) :
    decodeWord op =
      if i.format.admits (operandField op) then .ok (i.withOperand (operandField op))
      else .error .reservedOperand := by
  rw [decodeWord, h]
  cases i <;> rfl

theorem decodeWord_of_no_opcode {op : OpWord} (h : ¬∃ i : Instr, opcodeField op = i.opcode) :
    decodeWord op = .error .reservedOpcode := by
  rw [← mem_opcodes_iff] at h
  simp only [List.mem_cons, not_or] at h
  simp [decodeWord, h]

/-- A word decodes to an operation exactly when it is its encoding. -/
theorem decodeWord_eq_ok_iff (op : OpWord) (i : Instr) : decodeWord op = .ok i ↔ encode i = op := by
  constructor
  · intro h
    by_cases row : ∃ j : Instr, opcodeField op = j.opcode
    · obtain ⟨j, hj⟩ := row
      rw [decodeWord_of_opcode hj] at h
      split at h
      · next admitted =>
        obtain rfl : j.withOperand (operandField op) = i := Except.ok.inj h
        rw [encode, opcode_withOperand, operand_withOperand admitted, ← hj, word_eq_append_fields]
      · cases h
    · rw [decodeWord_of_no_opcode row] at h
      cases h
  · rintro rfl
    rw [decodeWord_of_opcode (opcodeField_encode i), operandField_encode, if_pos (admits_operand i),
      withOperand_operand]

/-- Settles O1: the encoding has the operation's own opcode and operand as its fields, and its format admits them. -/
theorem decodeOfEncodeIsTheInstruction : Obligations.DecodeOfEncodeIsTheInstruction := fun i =>
  (decodeWord_eq_ok_iff _ i).2 rfl

/-- Settles O2: the two fields of a word that decodes are the operation's opcode and operand, and they are all of it. -/
theorem decodedWordIsItsEncoding : Obligations.DecodedWordIsItsEncoding := fun op i =>
  (decodeWord_eq_ok_iff op i).1

/-! ### Reserved words -/

theorem admits_level_iff_toNat_lt (v : Word) : Format.level.admits v = true ↔ v.toNat < 2 := by
  rw [admits_level_iff]
  constructor
  · rintro (rfl | rfl) <;> decide
  · intro h
    rcases (show v.toNat = 0 ∨ v.toNat = 1 by omega) with h0 | h1
    · exact .inl (BitVec.eq_of_toNat_eq h0)
    · exact .inr (BitVec.eq_of_toNat_eq h1)

/-- What makes an operand reserved under a format (R73). -/
theorem admits_eq_false_iff (f : Format) (v : Word) :
    f.admits v = false ↔ f = .none ∧ v ≠ 0 ∨ f = .level ∧ 2 ≤ v.toNat := by
  rw [← Bool.not_eq_true]
  cases f with
  | none => simp [admits_none_iff]
  | level => simp [admits_level_iff_toNat_lt, Nat.lt_iff_add_one_le]
  | value => simp [Format.admits]

theorem opcode_mem_formatN_iff (i : Instr) :
    i.opcode.toNat ∈ [0x02, 0x03, 0x04, 0x05, 0x20, 0x21, 0x22, 0x23, 0x24, 0x27, 0x30] ↔ i.format = .none := by
  cases i <;> simp [Instr.opcode, Instr.format]

theorem opcode_eq_formatL_iff (i : Instr) : i.opcode.toNat = 0x01 ↔ i.format = .level := by
  cases i <;> simp [Instr.opcode, Instr.format]

/-- Settles O8: an opcode of the map belongs to an operation, whose format alone then decides on the operand. -/
theorem reservedWordsAreRefusedByKind : Obligations.ReservedWordsAreRefusedByKind := by
  intro op
  by_cases row : ∃ i : Instr, opcodeField op = i.opcode
  · obtain ⟨i, hi⟩ := row
    rw [hi, mem_opcodes_iff, opcode_mem_formatN_iff, opcode_eq_formatL_iff, ← admits_eq_false_iff,
      decodeWord_of_opcode hi]
    cases i.format.admits (operandField op) <;> simp
  · rw [decodeWord_of_no_opcode row]
    rw [← mem_opcodes_iff] at row
    refine ⟨iff_of_true row rfl, ?_⟩
    simp only [List.mem_cons, not_or] at row
    simp [row]

/-! ### Patterns -/

/-- The operand bits that must be 0 (R73). -/
def Format.mustBeZero : Format → Word
  | .none => 0xFFFFFFFF
  | .level => 0xFFFFFFFE
  | .value => 0

/-- The row of R76 for an operation: the whole opcode, and the operand bits that must be 0. -/
def Instr.pattern (i : Instr) : OpPattern where
  mask := ((0xFF : Byte) ++ i.format.mustBeZero : BitVec (8 + 32))
  value := (i.opcode ++ (0 : Word) : BitVec (8 + 32))

theorem opcodeField_pattern (i : Instr) : opcodeField i.pattern.value = i.opcode :=
  BitVec.extractLsb'_append_eq_left

theorem opPatterns_eq_map : opPatterns = opcodeMap.map Instr.pattern := by decide

theorem pattern_withOperand (v : Word) (i : Instr) : (i.withOperand v).pattern = i.pattern := by
  simp [Instr.pattern]

theorem and_mustBeZero_eq_zero_iff (f : Format) (v : Word) : v &&& f.mustBeZero = 0 ↔ f.admits v = true := by
  cases f with
  | none =>
    rw [admits_none_iff]
    exact iff_of_eq (congrArg (· = 0) BitVec.and_allOnes)
  | level =>
    constructor
    · intro h
      have onlyBit0 : v = v &&& 1 := calc
        v = v &&& (Format.level.mustBeZero ||| 1) := BitVec.and_allOnes.symm
        _ = v &&& 1 := by rw [BitVec.and_or_distrib_left, h]; exact BitVec.zero_or
      have parity : v.toNat = v.toNat % 2 := by
        rw [← Nat.and_one_is_mod]
        exact congrArg BitVec.toNat onlyBit0
      rw [admits_level_iff_toNat_lt]
      omega
    · intro h
      rcases (admits_level_iff v).1 h with rfl | rfl <;> rfl
  | value => simp [Format.mustBeZero, Format.admits]

theorem append_fields_inj {c c' : Byte} {v v' : Word} :
    (c ++ v : BitVec (8 + 32)) = c' ++ v' ↔ c = c' ∧ v = v' := by
  constructor
  · intro h
    have left := congrArg opcodeField h
    have right := congrArg operandField h
    exact ⟨BitVec.extractLsb'_append_eq_left.symm.trans (left.trans BitVec.extractLsb'_append_eq_left),
      BitVec.extractLsb'_append_eq_right.symm.trans (right.trans BitVec.extractLsb'_append_eq_right)⟩
  · rintro ⟨rfl, rfl⟩
    rfl

/-- A pattern selects the words with the operation's opcode and an operand that its format admits. -/
theorem selects_pattern_iff (i : Instr) (op : OpWord) :
    i.pattern.selects op = true ↔ opcodeField op = i.opcode ∧ i.format.admits (operandField op) = true := by
  have byFields : op &&& i.pattern.mask =
      (opcodeField op ++ (operandField op &&& i.format.mustBeZero) : BitVec (8 + 32)) := by
    conv_lhs => rw [← word_eq_append_fields op]
    exact BitVec.and_append.trans (congrArg (· ++ _) BitVec.and_allOnes)
  rw [OpPattern.selects, beq_iff_eq, byFields, ← and_mustBeZero_eq_zero_iff]
  exact append_fields_inj

/-- Only an operand that the format admits lets a word decode to an operation of the row. -/
theorem selects_pattern_iff_decodes (i : Instr) (op : OpWord) :
    i.pattern.selects op = true ↔ ∃ j, decodeWord op = .ok j ∧ j.opcode = i.opcode := by
  rw [selects_pattern_iff]
  constructor
  · rintro ⟨hopcode, admitted⟩
    exact ⟨_, by rw [decodeWord_of_opcode hopcode, if_pos admitted], opcode_withOperand _ i⟩
  · rintro ⟨j, hword, hrow⟩
    have hopcode : opcodeField op = i.opcode := by
      rw [← (decodeWord_eq_ok_iff op j).1 hword, opcodeField_encode, hrow]
    refine ⟨hopcode, ?_⟩
    by_contra refused
    rw [decodeWord_of_opcode hopcode, if_neg refused] at hword
    cases hword

/-- Settles O3: every row of R76 is the pattern of an operation, and no two of them have the same opcode. -/
theorem patternsSelectTheOperationsAndNeverOverlap :
    Obligations.PatternsSelectTheOperationsAndNeverOverlap := by
  intro op
  rw [opPatterns_eq_map]
  refine ⟨fun r hr => ?_, fun i hword => ?_, ?_⟩
  · obtain ⟨i, -, rfl⟩ := List.mem_map.1 hr
    rw [selects_pattern_iff_decodes, opcodeField_pattern]
  · exact ⟨i.pattern, List.mem_map.2 ⟨_, withOperand_zero_mem i, pattern_withOperand 0 i⟩,
      (selects_pattern_iff_decodes i op).2 ⟨i, hword, rfl⟩⟩
  · have distinct : opcodeMap.Pairwise fun i j => i.opcode ≠ j.opcode := by decide
    refine List.pairwise_map.2 (distinct.imp ?_)
    rintro i j hne ⟨hi, hj⟩
    exact hne (((selects_pattern_iff i op).1 hi).1.symm.trans ((selects_pattern_iff j op).1 hj).1)

/-- Settles O4: the decoder computes each of the seven words. -/
theorem familyWordsDecode : Obligations.FamilyWordsDecode := by
  unfold Obligations.FamilyWordsDecode
  decide

end Sys2Proof

namespace Sys2Proof.Machine

/-- Settles O5: row by row of R57, where each write operation runs the effect that `memWrite` has. -/
theorem registerOperationsFollowTheRegisterMap : Obligations.RegisterOperationsFollowTheRegisterMap := by
  intro r v s
  refine ⟨fun i hread => ?_, fun i hwrite => ?_, fun hreadOnly => ?_, fun hwriteOnly => ?_⟩
  · cases r <;> cases hread <;> rfl
  · cases r <;> cases hwrite <;> exact ⟨rfl, rfl, _, rfl, rfl⟩
  · cases r with
    | gpioPin | humidity | temperature | data => rfl
    | autoupdate | interval | trigger | debug => cases hreadOnly
  · cases r with
    | trigger | debug => rfl
    | gpioPin | autoupdate | interval | humidity | temperature | data => cases hwriteOnly

end Sys2Proof.Machine
end

section
/-! What every step keeps, read off the effects of the operations (Laws/Step.lean): dispatch, and each state element
with the operations that write it. -/

namespace Sys2Proof.Machine

/-! ### Dispatch -/

/-- Settles O6: the prepared state is `takeOperation` of the presented one. -/
theorem stepRunsTheDecodedInstruction : Obligations.StepRunsTheDecodedInstruction :=
  fun _ _ _ _ => step_of_admitted

/-- Settles O9: admission looks at the ports first of all. -/
theorem noStepWithoutAPresentedOperation : Obligations.NoStepWithoutAPresentedOperation := by
  intro s hempty
  simp [step, admissionOf, hempty]

/-- Settles O10: the condition is the only check an operation's rule makes. -/
theorem operationsCompleteExactlyWhenEnabled : Obligations.OperationsCompleteExactlyWhenEnabled :=
  fun _ _ => ⟨exec_of_enabled, exec_of_not_enabled⟩

/-- A step with a next state is an effect on the state that dispatch prepared. -/
theorem step_next_effect {s t : State} (h : step s = .next t) :
    ∃ p rest i, s.input = p :: rest ∧ s.stopped = false ∧ s.now ≤ p.t.toNat ∧
      Effect (takeOperation rest p.t.toNat s) i t := by
  obtain ⟨p, rest, i, hinput, hrunning, -, htime, hexec⟩ := step_next_cases s t h
  exact ⟨p, rest, i, hinput, hrunning, htime, exec_next_effect hexec⟩

/-! ### The elements that no rule writes, and the ports -/

/-- Beyond the buffer and the ports, which `report` overwrites, an in-window store leaves every field. -/
@[simp] theorem storeInterval_fields (s : State) :
    (storeInterval s).cfg = s.cfg ∧ (storeInterval s).input = s.input ∧ (storeInterval s).phase = s.phase ∧
    (storeInterval s).cnt = s.cnt ∧ (storeInterval s).ref = s.ref ∧ (storeInterval s).irq = s.irq ∧
    (storeInterval s).decodePending = s.decodePending ∧ (storeInterval s).pinMode = s.pinMode ∧
    (storeInterval s).wdArmed = s.wdArmed ∧ (storeInterval s).wdDeadline = s.wdDeadline ∧
    (storeInterval s).wakeArmed = s.wakeArmed ∧ (storeInterval s).wakeDeadline = s.wakeDeadline ∧
    (storeInterval s).arArmed = s.arArmed ∧ (storeInterval s).arDeadline = s.arDeadline ∧
    (storeInterval s).now = s.now ∧ (storeInterval s).humidity = s.humidity ∧
    (storeInterval s).temperature = s.temperature ∧ (storeInterval s).autoupdate = s.autoupdate ∧
    (storeInterval s).interval = s.interval ∧ (storeInterval s).debug = s.debug ∧ (storeInterval s).nTrig = s.nTrig ∧
    (storeInterval s).nFail = s.nFail ∧ (storeInterval s).nCksumErr = s.nCksumErr ∧
    (storeInterval s).lastCount = s.lastCount ∧ (storeInterval s).stopped = s.stopped ∧
    (storeInterval s).faulted = s.faulted := by
  simp [storeInterval]

/-- No operation's rule writes the parameters, the ports or the time. -/
theorem Effect.sameSurroundings {s t : State} {i : Instr} (h : Effect s i t) : sameSurroundings s t := by
  cases h <;> simp [Machine.sameSurroundings]

/-- Settles O11: dispatch writes the time and takes the operation, and no rule touches either again. -/
theorem stepsCarryTimeForward : Obligations.StepsCarryTimeForward := by
  intro s t h
  obtain ⟨p, rest, i, hinput, -, htime, heffect⟩ := step_next_effect h
  obtain ⟨-, hrest, hnow⟩ := heffect.sameSurroundings
  exact ⟨htime.trans_eq hnow.symm, p, rest, hinput, hnow, hrest⟩

/-- Settles O12: every effect ends in one report; only a decode's fault has the code 0xC0, and only a read's report
gives a value. -/
theorem everyAdmittedOperationReportsOnce : Obligations.EveryAdmittedOperationReportsOnce := by
  intro i s t h
  cases exec_next_effect h <;> simp [Report.code, Fault.code, memRead]

/-! ### The elements and their writers -/

/-- Settles O45: of all effects only the commit of a frame writes the reading, and the checksum is its condition. -/
theorem readingIsOverwrittenOnlyByAValidFrame : Obligations.ReadingIsOverwrittenOnlyByAValidFrame := by
  intro i s t h hchanged
  cases exec_next_effect h
  case committed _ _ hvalid => exact ⟨rfl, (Frame.valid_iff _).1 hvalid⟩
  all_goals simp at hchanged

/-- An element of the Sample Buffer is as it was, but for the one at which an in-window falling edge stores. -/
theorem Effect.sample {s t : State} {i : Instr} (h : Effect s i t) (k : Nat) (hk : k < nBits) :
    t.x[k] = s.x[k] ∨ (i = .edge .low ∧ s.cnt.toNat = s.cfg.preamble + k ∧ t.x[k] = some (elapsed s)) := by
  cases h
  case fallingInside hlow hhigh =>
    by_cases hindex : k = s.cnt.toNat - s.cfg.preamble
    · exact .inr ⟨rfl, by omega, by simp [storeInterval_get, hindex]⟩
    · exact .inl (by simp [storeInterval_get, hindex])
  case fallingFinal hfinal =>
    by_cases hindex : k = s.cnt.toNat - s.cfg.preamble
    · exact .inr ⟨rfl, by omega, by simp [storeInterval_get, hindex]⟩
    · exact .inl (by simp [storeInterval_get, hindex])
  all_goals exact .inl (by simp)

/-- Settles O46: an element stays, or the edge stores a value in it. -/
theorem sampleBufferIsWrittenOnlyByInWindowEdges : Obligations.SampleBufferIsWrittenOnlyByInWindowEdges := by
  intro i s t k hk h
  rcases (exec_next_effect h).sample k hk with hsame | ⟨hedge, hindex, hstored⟩
  · exact ⟨fun hne => absurd hsame hne, fun d hd => ⟨d, hsame.trans hd⟩⟩
  · exact ⟨fun _ => ⟨hedge, hindex⟩, fun _ _ => ⟨_, hstored⟩⟩

/-- Settles O47: effect by effect, the report names the event whose counter moves. -/
theorem diagnosticsCountersMoveOnlyOnTheirEvents : Obligations.DiagnosticsCountersMoveOnlyOnTheirEvents := by
  intro i s t h
  cases exec_next_effect h <;> simp

/-- Settles O48: effect by effect, the pin is written together with the report of its writer. -/
theorem pinModeIsWrittenOnlyByItsThreeWriters : Obligations.PinModeIsWrittenOnlyByItsThreeWriters := by
  intro i s t h
  cases exec_next_effect h <;> simp

/-- Settles O49: effect by effect, the timers the effect writes are those of its report or its operation. -/
theorem timersAreArmedAndDisarmedOnlyByTheirWriters : Obligations.TimersAreArmedAndDisarmedOnlyByTheirWriters := by
  intro i s t h
  cases exec_next_effect h <;> simp

/-- Settles O50: of all effects only the three configuration writes set a configuration field. -/
theorem configurationIsWrittenOnlyByItsOwnOperation : Obligations.ConfigurationIsWrittenOnlyByItsOwnOperation := by
  intro i s t h
  cases exec_next_effect h <;> simp

/-- Settles O51: of all effects only the stop and the decode's fault write a mark, and each sets it. -/
theorem marksAreSticky : Obligations.MarksAreSticky := by
  intro i s t h
  cases exec_next_effect h <;> simp

/-- Settles O26: row by row of the table, the effects of the row's operation, of which the session state leaves one. -/
theorem sessionStateChangesOnlyAsTabled : Obligations.SessionStateChangesOnlyAsTabled := by
  intro i s t h
  refine ⟨?accepted, ?tickAccepted, ?busy, ?tickBusy, ?timedOut, ?expiredIdle, ?decoded, ?onlyThese⟩
  case accepted =>
    rintro n rfl hn hidle
    cases exec_next_effect h with
    | triggerEmpty => contradiction
    | triggerBusy _ _ hworking => simp [hidle] at hworking
    | triggerAccepted => simp
  case tickAccepted =>
    rintro rfl hon hidle
    cases exec_next_effect h with
    | tickOff _ _ hoff => simp [hon] at hoff
    | tickBusy _ _ _ hworking => simp [hidle] at hworking
    | tickAccepted => simp
  case busy =>
    rintro n rfl hn hworking
    cases exec_next_effect h with
    | triggerEmpty => contradiction
    | triggerBusy => rfl
    | triggerAccepted _ _ hidle => simp [hworking] at hidle
  case tickBusy =>
    rintro rfl hon hworking
    cases exec_next_effect h with
    | tickOff _ _ hoff => simp [hon] at hoff
    | tickBusy => rfl
    | tickAccepted _ _ _ hidle => simp [hworking] at hidle
  case timedOut =>
    rintro rfl hworking
    cases exec_next_effect h with
    | timedOut => simp
    | expiredIdle _ _ hidle => simp [hworking] at hidle
  case expiredIdle =>
    rintro rfl hidle
    cases exec_next_effect h with
    | timedOut _ _ hworking => simp [hidle] at hworking
    | expiredIdle => simp [hidle]
  case decoded =>
    rintro rfl hwritten
    cases exec_next_effect h with
    | decodeFaulted k _ hfirst => simp [(bufferWritten_iff s.x).1 hwritten] at hfirst
    | committed => simp
    | discarded => simp
  case onlyThese =>
    intro hchanged
    cases exec_next_effect h <;> simp_all

end Sys2Proof.Machine
end

section
/-! The invariant of the block (Safety.lean): every effect keeps it, no step faults under it, and so no reachable state
is faulted. -/

namespace Sys2Proof.Machine

/-! ### What an effect can do to the window, the queue and the configuration -/

/-- A value once stored is never cleared. -/
theorem Effect.written {s t : State} {i : Instr} (h : Effect s i t) (k : Nat) (hk : k < nBits)
    (hs : ∃ d, s.x[k] = some d) : ∃ d, t.x[k] = some d := by
  rcases h.sample k hk with hsame | ⟨-, -, hstored⟩
  · rwa [hsame]
  · exact ⟨_, hstored⟩

/-- The falling edge that the counter counts at window position `k` stores element `k`. -/
theorem Effect.stored {s t : State} (h : Effect s (.edge .low) t) {k : Nat} (hk : k < nBits)
    (hcnt : s.cnt.toNat = s.cfg.preamble + k) : t.x[k] = some (elapsed s) := by
  have index : k = s.cnt.toNat - s.cfg.preamble := by omega
  cases h with
  | fallingOutside hout =>
    have inWindow : k < 40 := hk
    omega
  | fallingInside => simp [storeInterval_get, index]
  | fallingFinal => simp [storeInterval_get, index]

/-- The counter moves only by an accepted trigger, to 0, and by a falling edge, by one. -/
theorem Effect.counter {s t : State} {i : Instr} (h : Effect s i t) :
    t.cnt = s.cnt ∨ t.cnt = 0 ∨ (i = .edge .low ∧ t.cnt = s.cnt + 1) := by
  cases h <;> simp

/-- A decode is queued only by the falling edge at the final index. -/
theorem Effect.queued {s t : State} {i : Instr} (h : Effect s i t) (ht : t.decodePending = true) :
    s.decodePending = true ∨ (i = .edge .low ∧ s.cnt.toNat = s.cfg.preamble + 39) := by
  cases h <;> simp_all

/-- The reference stays, or becomes the operation's time. -/
theorem Effect.reference {s t : State} {i : Instr} (h : Effect s i t) : t.ref = s.ref ∨ t.ref = s.now := by
  cases h <;> simp

theorem Effect.interval_inRange {s t : State} {i : Instr} (h : Effect s i t)
    (hs : 3 ≤ s.interval.toNat ∧ s.interval.toNat ≤ 60000) : 3 ≤ t.interval.toNat ∧ t.interval.toNat ≤ 60000 := by
  cases h
  case intervalSet n hlow hhigh => simpa [intervalOfValue_toNat n hhigh] using ⟨hlow, hhigh⟩
  all_goals simpa using hs

theorem Effect.temperature_range {s t : State} {i : Instr} (h : Effect s i t) (hs : -32767 ≤ s.temperature.toInt) :
    -32767 ≤ t.temperature.toInt := by
  cases h
  case committed => exact (Frame.temperature_range _).1.trans_eq (Frame.temperature_toInt _).symm
  all_goals simpa using hs

/-- Only an accepted trigger begins a session, and it arms the watchdog (R91). -/
theorem Effect.watchdog_armed {s t : State} {i : Instr} (h : Effect s i t)
    (hs : s.stopped = false → s.phase = .working → s.wdArmed = true) :
    t.stopped = false → t.phase = .working → t.wdArmed = true := by
  cases h <;> simp_all

theorem Effect.refresh_armed {s t : State} {i : Instr} (h : Effect s i t) (hs : s.stopped = false → s.arArmed = true) :
    t.stopped = false → t.arArmed = true := by
  cases h <;> simp_all

/-- A running block is stopped only by SHUTDOWN, which leaves nothing armed or queued (R122). -/
theorem Effect.stopped_quiet {s t : State} {i : Instr} (h : Effect s i t) (hs : s.stopped = false)
    (ht : t.stopped = true) :
    t.wdArmed = false ∧ t.wakeArmed = false ∧ t.arArmed = false ∧ t.decodePending = false := by
  cases h <;> simp_all

/-- R110: the counter passes a window element only by the edge that stores it. -/
theorem Effect.window_written {s t : State} {i : Instr} (h : Effect s i t)
    (hs : ∀ k (hk : k < nBits), s.cfg.preamble + k < s.cnt.toNat → ∃ d, s.x[k] = some d)
    (k : Nat) (hk : k < nBits) (hpassed : s.cfg.preamble + k < t.cnt.toNat) : ∃ d, t.x[k] = some d := by
  rcases h.counter with hcnt | hcnt | ⟨rfl, hcnt⟩ <;> rw [hcnt] at hpassed
  · exact h.written k hk (hs k hk hpassed)
  · simp at hpassed
  · have hnext : s.cfg.preamble + k ≤ s.cnt.toNat := by
      have atMostOne : (s.cnt + 1).toNat ≤ s.cnt.toNat + 1 := by
        rw [BitVec.toNat_add]
        exact Nat.mod_le _ _
      omega
    rcases hnext.lt_or_eq with hlt | heq
    · exact h.written k hk (hs k hk hlt)
    · exact ⟨_, h.stored hk heq.symm⟩

/-- R110: the hand-off comes with the last element of the window, when the counter has passed the others. -/
theorem Effect.pending_written {s t : State} {i : Instr} (h : Effect s i t)
    (hwindow : ∀ k (hk : k < nBits), s.cfg.preamble + k < s.cnt.toNat → ∃ d, s.x[k] = some d)
    (hs : s.decodePending = true → bufferWritten s) (ht : t.decodePending = true) : bufferWritten t := by
  intro k hk
  rcases h.queued ht with hqueued | ⟨rfl, hfinal⟩
  · exact h.written k hk (hs hqueued k hk)
  · rcases (Nat.le_of_lt_succ hk).lt_or_eq with hlt | rfl
    · exact h.written k hk (hwindow k hk (by omega))
    · exact ⟨_, h.stored hk hfinal⟩

/-! ### The invariant -/

/-- Dispatch writes only the time, forward and within the port's 64 bits. -/
theorem Inv.takeOperation {s : State} (hs : Inv s) (rest : List PortOp) {t : Nat} (hle : s.now ≤ t)
    (hlt : t < 2 ^ 64) : Inv (takeOperation rest t s) :=
  { hs with
    referencePast := hs.referencePast.trans hle
    timeOnPort := hlt }

/-- Every operation of a running block keeps the invariant. -/
theorem Effect.keepsInv {s t : State} {i : Instr} (h : Effect s i t) (hs : Inv s) (hrunning : s.stopped = false) :
    Inv t := by
  obtain ⟨hcfg, -, hnow⟩ := h.sameSurroundings
  have hinterval := h.interval_inRange ⟨hs.intervalLow, hs.intervalHigh⟩
  exact {
    parameters := hcfg ▸ hs.parameters
    watchdogArmed := h.watchdog_armed hs.watchdogArmed
    refreshArmed := h.refresh_armed hs.refreshArmed
    stoppedQuiet := h.stopped_quiet hrunning
    intervalLow := hinterval.1
    intervalHigh := hinterval.2
    temperatureRange := h.temperature_range hs.temperatureRange
    referencePast := by
      rw [hnow]
      rcases h.reference with href | href <;> rw [href]
      exact hs.referencePast
    timeOnPort := hnow ▸ hs.timeOnPort
    windowWritten := hcfg ▸ h.window_written hs.windowWritten
    pendingWritten := h.pending_written hs.windowWritten hs.pendingWritten }

/-- A step under the invariant is an effect on a state that satisfies it. -/
theorem step_next_effect_of_inv {s t : State} (hs : Inv s) (h : step s = .next t) :
    ∃ p rest i, Inv (takeOperation rest p s) ∧ s.stopped = false ∧ Effect (takeOperation rest p s) i t := by
  obtain ⟨p, rest, i, -, hrunning, htime, heffect⟩ := step_next_effect h
  exact ⟨_, rest, i, hs.takeOperation rest htime p.t.isLt, hrunning, heffect⟩

/-- Settles O55: dispatch keeps the invariant, and then every effect does. -/
theorem everyStepKeepsTheInvariant : Obligations.EveryStepKeepsTheInvariant := by
  intro s t hs h
  obtain ⟨_, _, _, hu, hrunning, heffect⟩ := step_next_effect_of_inv hs h
  exact heffect.keepsInv hu hrunning

/-- The only fault is DECODE's, at an element that the invariant says is written. -/
theorem Effect.noFault {s t : State} {i : Instr} (h : Effect s i t) (hs : s.decodePending = true → bufferWritten s) :
    t.faulted = s.faulted ∧ ∀ k, t.outcome ≠ some (.fault k) := by
  cases h
  case decodeFaulted k hqueued hfirst => simp [(bufferWritten_iff s.x).1 (hs hqueued)] at hfirst
  all_goals simp

/-- Settles O56: the invariant holds on the state that dispatch prepares, where a queued decode finds its buffer
written. -/
theorem noStepFaultsUnderTheInvariant : Obligations.NoStepFaultsUnderTheInvariant := by
  intro s t hs h
  obtain ⟨_, _, _, hu, -, heffect⟩ := step_next_effect_of_inv hs h
  exact heffect.noFault hu.pendingWritten

/-- Settles O58: a step keeps it whatever else the state holds. -/
theorem workingSessionKeepsAnArmedWatchdog : Obligations.WorkingSessionKeepsAnArmedWatchdog := by
  intro s t hs h
  obtain ⟨_, _, _, -, -, -, heffect⟩ := step_next_effect h
  exact heffect.watchdog_armed hs

/-! ### Load and reachable states -/

theorem resetWith_interval {p : Params} (h : p.intervalReset ≤ 60000) :
    (State.resetWith p).interval.toNat = p.intervalReset := by
  rw [State.resetWith, BitVec.toNat_ofNat]
  omega

/-- Settles O54: the parameters in range give the interval, and every other clause is empty at counter 0 with nothing
armed but the refresh timer. -/
theorem loadedStateSatisfiesTheInvariant : Obligations.LoadedStateSatisfiesTheInvariant := by
  intro p hp
  obtain ⟨-, -, -, hlow, hhigh⟩ := (wellFormedParams_iff p).1 hp
  have hinterval := resetWith_interval hhigh
  exact {
    parameters := hp
    watchdogArmed := fun _ h => by cases h
    refreshArmed := fun _ => rfl
    stoppedQuiet := fun h => by cases h
    intervalLow := hinterval ▸ hlow
    intervalHigh := hinterval ▸ hhigh
    temperatureRange := by simp [State.resetWith]
    referencePast := Nat.le_refl 0
    timeOnPort := by simp [State.resetWith]
    windowWritten := fun _ _ h => by simp [State.resetWith] at h
    pendingWritten := fun h => by cases h }

/-- Settles O52: an interval in range fits its 16-bit register; every other element is at the value load writes. -/
theorem loadLeavesTheResetState : Obligations.LoadLeavesTheResetState := by
  intro p hp
  obtain ⟨-, -, -, -, hhigh⟩ := (wellFormedParams_iff p).1 hp
  exact ⟨State.resetWith p, rfl, rfl, rfl, rfl, rfl, rfl, fun i h => Vector.getElem_replicate h, rfl, rfl, rfl, rfl,
    rfl, rfl, rfl, rfl, rfl, rfl, rfl, resetWith_interval hhigh, rfl, rfl, rfl, rfl, rfl, rfl, rfl⟩

/-- Settles O53: the acquired resources are the part of the order before the one that fails. -/
theorem failedLoadReleasesInReverseOrder : Obligations.FailedLoadReleasesInReverseOrder := by
  intro p r
  refine ⟨rfl, ?_⟩
  cases r with
  | pin => exact ⟨[], _, rfl, rfl⟩
  | interruptLine => exact ⟨[.pin], _, rfl, rfl⟩
  | timeBase => exact ⟨[.pin, .interruptLine], _, rfl, rfl⟩
  | deferredWorkAndTimers => exact ⟨[.pin, .interruptLine, .timeBase], _, rfl, rfl⟩
  | publishedSurface => exact ⟨[.pin, .interruptLine, .timeBase, .deferredWorkAndTimers], _, rfl, rfl⟩

/-- Reset, the environment and every step keep the invariant, and under it the mark stays clear. -/
theorem Reachable.inv_and_safe {p : Params} {s : State} (hp : p.wellFormed = true) (h : Reachable p s) :
    Inv s ∧ safe s := by
  induction h with
  | load => exact ⟨loadedStateSatisfiesTheInvariant p hp, rfl⟩
  | present ops _ ih => exact ⟨{ ih.1 with }, ih.2⟩
  | step _ hstep ih =>
    have hkept := noStepFaultsUnderTheInvariant _ _ ih.1 hstep
    exact ⟨everyStepKeepsTheInvariant _ _ ih.1 hstep, hkept.1.trans ih.2⟩

/-- Settles O57: a reachable state meets the invariant, under which no step sets the mark. -/
theorem reachableStatesAreSafe : Obligations.ReachableStatesAreSafe := fun _ _ hp h => (h.inv_and_safe hp).2

/-- Refutes O59: SHUTDOWN at 6000, after a trigger accepted at 5000, leaves the session Working and disarms its
watchdog. -/
theorem not_workingImpliesArmedInEveryReachableState :
    ¬Obligations.WorkingImpliesArmedInEveryReachableState := by
  intro h
  have triggered : Reachable Params.reference _ := .step (.present [⟨0x1500000001, 5000⟩] .load) rfl
  have stopped : Reachable Params.reference _ := .step (.present [⟨0x3000000000, 6000⟩] triggered) rfl
  exact absurd (h _ _ stopped rfl) (by decide)

end Sys2Proof.Machine
end

section
/-! The Edge Timestamp Recorder (spec/40_recorder.md): what a falling edge stores and counts, and what EDGE leaves. -/

namespace Sys2Proof.Machine

/-! ### EDGE -/

theorem exec_edge (l : Level) (s : State) : ∃ t, exec (.edge l) s = .next t :=
  exec_of_enabled (i := .edge l) rfl

theorem exec_edge_low (s : State) :
    exec (.edge .low) s = .next (touchReference (countFalling (recordFalling s))) := rfl

/-- R85: every falling edge is counted and timestamped. -/
theorem Effect.falling_counts {s t : State} (h : Effect s (.edge .low) t) :
    t.cnt = s.cnt + 1 ∧ t.ref = s.now ∧ t.irq = s.irq + 1 := by
  cases h <;> simp

/-- Settles O13: the window position gives the element, which the edge stores, and no other. -/
theorem fallingEdgeInWindowStoresTheInterval : Obligations.FallingEdgeInWindowStoresTheInterval := by
  intro s hlow hhigh
  obtain ⟨t, ht⟩ := exec_edge .low s
  have h : Effect s (.edge .low) t := exec_next_effect ht
  refine ⟨t, ht, fun i hi hindex => ?_, fun i hi hother => ?_, h.falling_counts⟩
  · exact ⟨elapsed s, h.stored hi (by omega), elapsed_toNat s⟩
  · refine (h.sample i hi).resolve_right ?_
    rintro ⟨-, hcnt, -⟩
    omega

theorem recordFalling_of_outside {s : State}
    (h : s.cnt.toNat < s.cfg.preamble ∨ s.cfg.preamble + nBits ≤ s.cnt.toNat) :
    recordFalling s = report .ok s := by
  have outside : ¬inWindow s = true := by
    have length : nBits = 40 := rfl
    rw [inWindow_iff]
    omega
  simp [recordFalling, outside]

/-- Settles O14: outside the window nothing but the report comes before the count. -/
theorem fallingEdgeOutsideWindowStoresNothing : Obligations.FallingEdgeOutsideWindowStoresNothing := by
  intro s hout
  rw [exec_edge_low, recordFalling_of_outside hout]
  rfl

/-- Settles O15: a rising edge is the report of OK and the updates that every edge makes. -/
theorem risingEdgeOnlyMovesTheReference : Obligations.RisingEdgeOnlyMovesTheReference := fun _ => rfl

/-- Settles O16: of the three effects of a falling edge, the one at the final index hands off. -/
theorem handOffExactlyAtTheFinalIndex : Obligations.HandOffExactlyAtTheFinalIndex := by
  intro s
  obtain ⟨t, ht⟩ := exec_edge .low s
  refine ⟨t, ht, ?_⟩
  cases exec_next_effect ht with
  | fallingOutside hout => exact ⟨fun hfinal => absurd hfinal (by omega), fun _ => by simp⟩
  | fallingInside _ hbelow => exact ⟨fun hfinal => absurd hfinal (by omega), fun _ => by simp⟩
  | fallingFinal hfinal => exact ⟨fun _ => by simp, fun hother => absurd hfinal hother⟩

/-- Settles O17: each effect of EDGE is made of updates of the capture state and the ports. -/
theorem edgeTouchesOnlyTheCapture : Obligations.EdgeTouchesOnlyTheCapture := by
  intro l s
  obtain ⟨t, ht⟩ := exec_edge l s
  have surroundings : sameSurroundings s t := (exec_next_effect ht).sameSurroundings
  refine ⟨t, ht, ?_⟩
  cases exec_next_effect ht <;>
    simpa [sameWatchdog, sameWakeHold, sameRefresh, sameReading, sameSettings, sameDiagnostics, sameMarks]
      using surroundings

/-- Neither the window nor the stored duration looks at the session state. -/
theorem recordFalling_withPhase (s : State) (p : Phase) :
    recordFalling { s with phase := p } = { recordFalling s with phase := p } := by
  have sameWindow : inWindow { s with phase := p } = inWindow s := rfl
  have sameFinal : atFinalIndex { s with phase := p } = atFinalIndex s := rfl
  rw [recordFalling, recordFalling, sameWindow, sameFinal]
  split
  · split <;> rfl
  · rfl

/-- Settles O18: setting the session state commutes with every update that EDGE makes. -/
theorem edgeDoesNotReadTheSessionState : Obligations.EdgeDoesNotReadTheSessionState := by
  intro l s p
  cases l with
  | low =>
    refine ⟨_, exec_edge_low s, ?_⟩
    rw [exec_edge_low, recordFalling_withPhase]
    rfl
  | high => exact ⟨_, rfl, rfl⟩

theorem elapsed_of_ref_le_now {s : State} (h : s.ref ≤ s.now) : elapsed s = BitVec.ofNat 32 (s.now - s.ref) := by
  rw [elapsed, trunc32, ← Int.ofNat_sub h, BitVec.ofInt_natCast]

/-- Settles O19: the rising edge moves the reference to its own time, from which the falling edge measures. -/
theorem highPulseWidthIsMeasured : Obligations.HighPulseWidthIsMeasured := by
  intro s u v time hlow hhigh htime hrise hfall
  obtain rfl : touchReference (report .ok s) = u := Host.Outcome.next.inj hrise
  have inBuffer : s.cnt.toNat - s.cfg.preamble < nBits := by omega
  have index : s.cnt.toNat = s.cfg.preamble + (s.cnt.toNat - s.cfg.preamble) := by omega
  have stored := (exec_next_effect hfall).stored inBuffer index
  exact ⟨inBuffer, stored.trans (congrArg some (elapsed_of_ref_le_now htime))⟩

end Sys2Proof.Machine
end

section
/-! Sessions (spec/41_sequencer.md): the wake hold, a session's end by the watchdog or the decoder, and the frames that
DECODE rejects. -/

namespace Sys2Proof.Machine

/-! ### The wake hold -/

theorem exec_wakeRelease_of_due {s : State} (harmed : s.wakeArmed = true) (hdue : s.wakeDeadline ≤ s.now) :
    exec .wakeRelease s = .next (releaseWake s) :=
  (execWakeRelease_next s _).2 ⟨⟨harmed, hdue⟩, rfl⟩

theorem exec_wakeRelease_of_not_due {s : State} (h : s.wakeArmed = false ∨ s.now < s.wakeDeadline) :
    exec .wakeRelease s = .refused .notEnabled := by
  have notReady : ¬s.wakeReady = true := by rwa [wakeReady_iff, not_armed_and_due_iff]
  simp [exec, execWakeRelease, notReady]

/-- Settles O23: due or not, and the release reads no session state. -/
theorem wakeReleaseReleasesThePin : Obligations.WakeReleaseReleasesThePin := fun _ =>
  ⟨rfl, rfl, exec_wakeRelease_of_due, exec_wakeRelease_of_not_due⟩

/-! ### The commit of a frame -/

/-- Either verdict writes the reading, the count of bad checksums and the ports, and nothing else. -/
@[simp] theorem commitFrame_fields (f : Frame) (s : State) :
    (commitFrame f s).cfg = s.cfg ∧ (commitFrame f s).phase = s.phase ∧ (commitFrame f s).cnt = s.cnt ∧
    (commitFrame f s).ref = s.ref ∧ (commitFrame f s).irq = s.irq ∧ (commitFrame f s).x = s.x ∧
    (commitFrame f s).decodePending = s.decodePending ∧ (commitFrame f s).pinMode = s.pinMode ∧
    (commitFrame f s).wdArmed = s.wdArmed ∧ (commitFrame f s).wdDeadline = s.wdDeadline ∧
    (commitFrame f s).now = s.now ∧ (commitFrame f s).nFail = s.nFail ∧ (commitFrame f s).faulted = s.faulted := by
  rcases commitFrame_cases f s with ⟨-, e⟩ | ⟨-, e⟩ <;> simp [e]

theorem commitFrame_of_invalid {f : Frame} (h : ¬f.valid = true) (s : State) :
    commitFrame f s = report .cksumErr (countCksumErr s) := by
  simp [commitFrame, h]

theorem commitFrame_reading {f : Frame} (h : f.valid = true) (s : State) :
    (commitFrame f s).humidity = f.humidity ∧ (commitFrame f s).temperature.toInt = f.temperature := by
  rw [commitFrame_of_valid h]
  exact ⟨rfl, f.temperature_toInt⟩

/-- Settles O32: on a written buffer with another checksum, DECODE only counts the frame. -/
theorem invalidFrameIsDiscarded : Obligations.InvalidFrameIsDiscarded := by
  rintro s f hqueued hwritten rfl hchecksum
  have invalid : ¬(frameOf s.x).valid = true := mt (Frame.valid_iff _).1 hchecksum
  refine ⟨finishDecode (report .cksumErr (countCksumErr (dequeueDecode s))), ?_, ?_⟩
  · rw [exec_decode_of_written hqueued hwritten, commitFrame_of_invalid invalid]
  · simp [sameReading]

/-! ### The end of a session -/

theorem exec_wrTrigger_of_idle {s : State} {n : Word} (hidle : s.phase = .idle) (hn : n ≠ 0) :
    exec (.wrTrigger n) s = .next (acceptTrigger s) := by
  rw [exec_wrTrigger_of_ne_zero hn, requestTrigger_of_idle hidle]

theorem exec_wdExpire_of_working {s : State} (hworking : s.phase = .working) (harmed : s.wdArmed = true)
    (hdue : s.wdDeadline ≤ s.now) : exec .wdExpire s = .next (report .timeout (failSession (closeWatchdog s))) := by
  rw [exec_wdExpire_of_due harmed hdue, expireWatchdog_of_working hworking]

theorem exec_wdExpire_of_idle {s : State} (hidle : s.phase = .idle) (harmed : s.wdArmed = true)
    (hdue : s.wdDeadline ≤ s.now) : exec .wdExpire s = .next (report .wdIdle (closeWatchdog s)) := by
  rw [exec_wdExpire_of_due harmed hdue, expireWatchdog_of_idle hidle]

/-- Settles O27: DECODE leaves the watchdog armed and due, the watchdog leaves the decode queued and its buffer written,
so the second of the two is enabled in either order. -/
theorem watchdogAndDecoderMayRunInEitherOrder : Obligations.WatchdogAndDecoderMayRunInEitherOrder := by
  intro s hworking harmed hdue hqueued hwritten
  refine ⟨?decoderFirst, ?watchdogFirst⟩
  case decoderFirst =>
    refine ⟨_, _, exec_decode_of_written hqueued hwritten,
      exec_wdExpire_of_idle (by simp) (by simpa using harmed) (by simpa using hdue), by simp, by simp, by simp,
      fun hvalid => ?_⟩
    simpa using commitFrame_reading hvalid (dequeueDecode s)
  case watchdogFirst =>
    refine ⟨_, _, exec_wdExpire_of_working hworking harmed hdue, by simp,
      exec_decode_of_written (by simpa using hqueued) hwritten, by simp, by simp, fun hvalid => ?_⟩
    have reading := commitFrame_reading hvalid
    simpa [commitFrame_of_valid hvalid] using reading s

/-- Settles O28: the accepted trigger has replaced the deadline, and the expiry leaves the session Idle. -/
theorem timedOutSessionRecovers : Obligations.TimedOutSessionRecovers := by
  intro s t n hidle hn htrigger
  obtain rfl : acceptTrigger s = t := Host.Outcome.next.inj ((exec_wrTrigger_of_idle hidle hn).symm.trans htrigger)
  refine ⟨fun time hearly => exec_wdExpire_of_not_due (.inr (by simpa using hearly)), fun time hdue => ?_⟩
  refine ⟨_, exec_wdExpire_of_working (by simp) (by simp) (by simpa using hdue), by simp, by simp,
    by simp [sameReading], _, exec_wrTrigger_of_idle (by simp) hn, by simp⟩

/-- Settles O29: the trigger leaves the decode queued, DECODE leaves the new watchdog armed. -/
theorem staleDecodeEndsTheNewSession : Obligations.StaleDecodeEndsTheNewSession := by
  intro s t n hidle hn hqueued hwritten htrigger
  obtain rfl : acceptTrigger s = t := Host.Outcome.next.inj ((exec_wrTrigger_of_idle hidle hn).symm.trans htrigger)
  refine ⟨_, exec_decode_of_written (by simpa using hqueued) hwritten, by simp, by simp, by simp [sameCounters],
    by simp, by simp, fun time hdue => ?_⟩
  exact ⟨_, exec_wdExpire_of_idle (by simp) (by simp) (by simpa using hdue), by simp, by simp⟩

end Sys2Proof.Machine
end

section
/-! DECODE over the Sample Buffer (spec/42_decoder.md): its frame rule, its dependence on the buffer, the fault, and the
reading that pulses give. -/

namespace Sys2Proof.Machine

/-- Settles O33: each of DECODE's three effects, the fault's included, leaves them. -/
theorem decodeTouchesNoCaptureTimerOrConfiguration : Obligations.DecodeTouchesNoCaptureTimerOrConfiguration := by
  intro s hqueued
  obtain ⟨t, ht⟩ := exec_of_enabled (i := .decode) hqueued
  have surroundings : sameSurroundings s t := (exec_next_effect ht).sameSurroundings
  refine ⟨t, ht, ?_⟩
  cases exec_next_effect ht <;>
    simpa [sameCounters, sameBuffer, sameWatchdog, sameWakeHold, sameRefresh, sameSettings] using surroundings

/-! ### What DECODE takes from the buffer -/

/-- What DECODE reports of a Sample Buffer (R100, R106, R127). -/
def decodeReport (x : Vector (Option Word) nBits) : Report :=
  match firstUnwritten 0 x.toList with
  | some i => .fault (.unwrittenSample i)
  | none => if (frameOf x).valid then .cksumOk else .cksumErr

/-- The report is a function of the buffer, and so is the reading that comes with CKSUM_OK. -/
theorem Effect.decode_reports {s t : State} (h : Effect s .decode t) :
    t.outcome = some (decodeReport s.x) ∧
      (t.outcome = some .cksumOk → t.humidity = (frameOf s.x).humidity ∧
        t.temperature = BitVec.ofInt 16 (frameOf s.x).temperature) := by
  cases h with
  | decodeFaulted k _ hfirst => simp [decodeReport, hfirst]
  | committed _ hwritten hvalid => simp [decodeReport, hwritten, hvalid]
  | discarded _ hwritten hinvalid => simp [decodeReport, hwritten, hinvalid]

theorem buffer_eq_of_sameBuffer {s t : State} (h : sameBuffer s t) : t.x = s.x := Vector.ext h

/-- Settles O34: report and reading are functions of the buffer. -/
theorem decodeDependsOnTheBufferAlone : Obligations.DecodeDependsOnTheBufferAlone := by
  intro s s' t t' hbuffer ht ht'
  obtain ⟨hreport, hreading⟩ := (exec_next_effect ht).decode_reports
  obtain ⟨hreport', hreading'⟩ := (exec_next_effect ht').decode_reports
  rw [buffer_eq_of_sameBuffer hbuffer] at hreport' hreading'
  have sameReport : t.outcome = t'.outcome := hreport.trans hreport'.symm
  refine ⟨sameReport, fun hok => ?_⟩
  obtain ⟨hhumidity, htemperature⟩ := hreading hok
  obtain ⟨hhumidity', htemperature'⟩ := hreading' (sameReport ▸ hok)
  exact ⟨hhumidity'.trans hhumidity.symm, htemperature'.trans htemperature.symm⟩

/-- The lowest element without a value is the one that DECODE's loop finds. -/
theorem firstUnwritten_of_lowest {x : Vector (Option Word) nBits} {i : Nat} (h : i < nBits) (hnone : x[i] = none)
    (hbelow : ∀ j (_ : j < i), x[j] ≠ none) : firstUnwritten 0 x.toList = some i := by
  rw [firstUnwritten_eq_some]
  refine ⟨Nat.zero_le i, by simp [h, hnone], fun j hj => ?_⟩
  obtain ⟨d, hd⟩ := Option.ne_none_iff_exists'.1 (hbelow j hj)
  exact ⟨d, by simp [hd, Nat.lt_trans hj h]⟩

/-- Settles O35: the loop stops at that element, before any of DECODE's writes. -/
theorem decodeOfAnUnwrittenSampleFaults : Obligations.DecodeOfAnUnwrittenSampleFaults :=
  fun s i h hqueued hnone hbelow => (execDecode_next s (takeFault (.unwrittenSample i) s)).2
    ⟨hqueued, .inl ⟨i, firstUnwritten_of_lowest h hnone hbelow, rfl⟩⟩

/-! ### The reading -/

/-- Settles O36: the sign is the top bit of byte 2, so that the magnitude is what is left of the two bytes. -/
theorem temperatureDecodeIsAnInvolution : Obligations.TemperatureDecodeIsAnInvolution := by
  intro m sign f hm hb2 hb3
  have hsign : f.sign = sign := by
    have below : m / 256 < 128 := by omega
    rw [Frame.sign_eq, hb2]
    cases sign <;> simp [below]
  have hmagnitude : f.magnitude.toNat = m := by
    rw [Frame.magnitude_toNat, hb2, hb3]
    omega
  refine ⟨hsign, hmagnitude, ?_⟩
  rw [Frame.temperature_toInt, Frame.temperature, hsign, hmagnitude]

/-- A byte is known by its bits, the most significant first. -/
theorem byteAt_eq_of_bits {x : Vector (Option Word) nBits} {k : Nat} {b : Byte}
    (h : ∀ j < 8, bitAt x (8 * k + j) = b.getLsbD (7 - j)) : byteAt x k = b := by
  refine BitVec.eq_of_getLsbD_eq fun i hi => ?_
  have position : 7 - (7 - i) = i := by omega
  have bit := getLsbD_byteAt x k (7 - i) (by omega)
  rw [h (7 - i) (by omega), position] at bit
  exact bit

/-- Each of the byte's samples that holds a value is on the side of the threshold that the byte's bit asks for
(R102). -/
def pulsesCarry (x : Vector (Option Word) nBits) (k : Nat) (b : Byte) : Prop :=
  ∀ j < 8, ∀ (h : 8 * k + j < nBits) (d : Word), x[8 * k + j] = some d → (50 < d.toNat ↔ b.getLsbD (7 - j) = true)

/-- Written pulses that carry a byte are decoded to it (R60, R103). -/
theorem byteAt_of_pulses {x : Vector (Option Word) nBits} {k : Nat} {b : Byte} (hk : k < 5)
    (hwritten : ∀ i (hi : i < nBits), ∃ d, x[i] = some d) (hpulses : pulsesCarry x k b) : byteAt x k = b := by
  refine byteAt_eq_of_bits fun j hj => ?_
  have inBuffer : 8 * k + j < nBits := by
    have length : nBits = 40 := rfl
    omega
  obtain ⟨d, hd⟩ := hwritten _ inBuffer
  rw [bitAt_of_some x _ inBuffer d hd, Bool.eq_iff_iff, decide_eq_true_iff]
  exact hpulses j hj inBuffer d hd

theorem frameOf_of_pulses {s : State} {data : Fin 5 → Byte} (hwritten : bufferWritten s)
    (hpulses : ∀ k : Fin 5, pulsesCarry s.x k (data k)) :
    frameOf s.x = ⟨data 0, data 1, data 2, data 3, data 4⟩ := by
  have byte (k : Fin 5) : byteAt s.x k = data k := byteAt_of_pulses k.isLt hwritten (hpulses k)
  rw [frameOf, Frame.mk.injEq]
  exact ⟨byte 0, byte 1, byte 2, byte 3, byte 4⟩

/-- Settles O37: the frame is the five bytes, DECODE commits them, and the reads return the registers. -/
theorem pulsesOfAValidFrameReachTheHostRegisters : Obligations.PulsesOfAValidFrameReachTheHostRegisters := by
  intro s data hqueued hwritten hpulses hchecksum
  obtain ⟨t, ht, hhumidity, hclear, hset, hok, -⟩ :=
    validFrameIsCommitted s _ hqueued hwritten (frameOf_of_pulses hwritten hpulses) hchecksum
  obtain ⟨-, -, -, -, ⟨_, _, humRun, humPort, humValue⟩, ⟨_, _, tempRun, tempPort, tempValue⟩,
    ⟨_, _, dataRun, dataPort, dataValue⟩⟩ := readsReturnTheirRegisters t
  have lowHalf : t.temperature.toNat < 65536 := t.temperature.isLt
  refine ⟨t, ht, hok, ⟨_, humRun, _, humPort, humValue.trans hhumidity⟩,
    ⟨_, tempRun, _, tempPort, tempValue.trans ?bySign⟩, ⟨_, dataRun, _, dataPort, ?high, ?low⟩⟩
  case bySign =>
    split
    · next hlt => exact hclear hlt
    · next hge => exact hset (Nat.le_of_not_lt hge)
  case high =>
    rw [← hhumidity]
    omega
  case low => omega

end Sys2Proof.Machine
end

section
/-! The host's registers (spec/43_host.md, 20_memory.md): reads after reads and after writes, and the sensor's reply as
the assembler expands it (R80). -/

namespace Sys2Proof.Machine

/-- Settles O41: no register is a port, so the second read finds what the first one found. -/
theorem readsWriteNoState : Obligations.ReadsWriteNoState := by
  intro i s hread
  simp only [List.mem_cons, List.not_mem_nil, or_false] at hread
  rcases hread with rfl | rfl | rfl | rfl | rfl | rfl <;> exact ⟨_, rfl, rfl, rfl⟩

theorem toNat_boolRegister (b : Bool) : ((BitVec.ofBool b).zeroExtend 32 : Word).toNat = b.toNat :=
  (BitVec.toNat_setWidth_of_le (by decide)).trans (BitVec.toNat_ofBool b)

theorem zeroExtend_intervalOfValue {n : Word} (h : n.toNat ≤ 60000) : (intervalOfValue n).zeroExtend 32 = n :=
  BitVec.eq_of_toNat_eq ((BitVec.toNat_setWidth_of_le (by decide)).trans (intervalOfValue_toNat n h))

/-- Settles O42: the read returns the register that the write set, or left. -/
theorem writtenConfigurationReadsBack : Obligations.WrittenConfigurationReadsBack := by
  intro s t v
  refine ⟨fun h => ?autoupdate, fun h hlow hhigh => ?inRange, fun h hout => ?outOfRange⟩
  case autoupdate =>
    cases (exec_wrAutoupdate v s).symm.trans h
    refine ⟨_, _, rfl, rfl, (toNat_boolRegister _).trans ?_⟩
    by_cases hv : v.toNat = 0 <;> simp [hv]
  case inRange =>
    cases (exec_wrInterval_of_inRange hlow hhigh s).symm.trans h
    exact ⟨_, rfl, congrArg some (zeroExtend_intervalOfValue hhigh)⟩
  case outOfRange =>
    cases (exec_wrInterval_of_outOfRange hout s).symm.trans h
    exact ⟨_, rfl, rfl⟩

/-- What a read-only register reads is the pin number and the reading (R57). -/
theorem memRead_readOnly {r : HostReg} {v : Word} {s t : State} (hr : r.writeOp v = none) (hcfg : t.cfg = s.cfg)
    (hreading : sameReading s t) : memRead r t = memRead r s := by
  obtain ⟨hhumidity, htemperature⟩ := hreading
  cases r with
  | gpioPin => simp only [memRead, hcfg]
  | humidity => simp only [memRead, hhumidity]
  | temperature => simp only [memRead, htemperature]
  | data => simp only [memRead, hhumidity, htemperature]
  | autoupdate | interval | trigger | debug => cases hr

/-- Settles O43: the reading is DECODE's alone to write, and the parameters are nobody's. -/
theorem hostWritesKeepTheReadOnlyRegisters : Obligations.HostWritesKeepTheReadOnlyRegisters := by
  intro i s t v r hwrite hr h
  have notDecode : i ≠ .decode := by
    rintro rfl
    simp at hwrite
  have hreading : sameReading s t := by
    by_contra hchanged
    exact notDecode (readingIsOverwrittenOnlyByAValidFrame i s t h (not_and_or.1 hchanged)).1
  exact memRead_readOnly hr (configurationIsWrittenOnlyByItsOwnOperation i s t h).1 hreading

/-! ### SENSOR_REPLY -/

theorem length_bitEdges (bits : List Bool) (t : Nat) : (bitEdges t bits).length = 2 * bits.length := by
  induction bits generalizing t with
  | nil => rfl
  | cons b bits ih =>
    simp only [bitEdges, List.length_cons, ih]
    omega

theorem length_bitsOfBytes (bytes : List Byte) : (bitsOfBytes bytes).length = 8 * bytes.length := by
  simp [bitsOfBytes, Nat.mul_comm]

/-- The word on port `op` is an EDGE. -/
def isEdge (p : PortOp) : Prop := ∃ l, decodeWord p.op = .ok (.edge l)

theorem isEdge_fallAt (t : Nat) : isEdge (fallAt t) := ⟨.low, decodeOfEncodeIsTheInstruction _⟩

theorem isEdge_riseAt (t : Nat) : isEdge (riseAt t) := ⟨.high, decodeOfEncodeIsTheInstruction _⟩

theorem isEdge_of_mem_bitEdges (bits : List Bool) (t : Nat) : ∀ p ∈ bitEdges t bits, isEdge p := by
  induction bits generalizing t with
  | nil => simp [bitEdges]
  | cons b bits ih => simpa [bitEdges, isEdge_riseAt, isEdge_fallAt] using ih _

theorem isEdge_of_mem_responseEdges (r : Nat) : ∀ p ∈ responseEdges r, isEdge p := by
  simp [responseEdges, isEdge_riseAt, isEdge_fallAt]

/-- Settles O60: four edges of the response and two for each of the forty bits. -/
theorem sensorReplyIsEightyFourEdges : Obligations.SensorReplyIsEightyFourEdges := by
  intro b0 b1 b2 b3 b4 r
  refine ⟨?_, fun p hp => ?_⟩
  · simp [sensorReply, sensorBits, responseEdges, length_bitEdges, length_bitsOfBytes, nBits]
  · rcases List.mem_append.1 hp with hresponse | hbit
    · exact isEdge_of_mem_responseEdges r p hresponse
    · exact isEdge_of_mem_bitEdges _ _ p hbit

end Sys2Proof.Machine
end
